-- ==== Sys2Proof/Word.lean ====
section
/-! DEFINITION. The word types of SFPE: bytes on the wire and host register values (00_scope.md R14, 10_state.md R41). -/

namespace Sys2Proof

/-- A byte is 8 bits (R14, R70). -/
abbrev Byte := BitVec 8

/-- A 16-bit value: `CNT`, a CRC (R22, R140). -/
abbrev Half := BitVec 16

/-- A host register access moves one unit of up to 32 bits (R41). -/
abbrev Word := BitVec 32

/-- A host register number, three hexadecimal digits in the opcode table (R118). -/
abbrev RegNum := BitVec 12

end Sys2Proof
end

