-- ==== Sys2Proof/Config.lean ====
section
/-! DEFINITION. The constants of SFPE (00_scope.md R12) and the values the spec leaves open, as opaque constants
without a body: nothing in Lean can evaluate one or prove a value of it. -/

namespace Sys2Proof.Config

/-- `PREAMBLE`, first byte (R12, R101). -/
def preamble0 : Byte := 0xAA#8
/-- `PREAMBLE`, second byte (R12, R101). -/
def preamble1 : Byte := 0x55#8
/-- `TYPE_DATA`: request and response frames (R12, R107). -/
def typeData : Byte := 0x80#8
/-- `TYPE_ACK`: a plain acknowledgement (R12, R107). -/
def typeAck : Byte := 0x40#8
/-- `TYPE_NAK`: sets "needs retry" (R12, R107). -/
def typeNak : Byte := 0x04#8
/-- `CTL_MARKER`, the first three bytes of a control frame (R12, R106). -/
def ctl0 : Byte := 0x4E#8
/-- `CTL_MARKER`, second byte. -/
def ctl1 : Byte := 0x00#8
/-- `CTL_MARKER`, third byte. -/
def ctl2 : Byte := 0x53#8
/-- Both bytes of the acknowledgement trailer (R104, R147). -/
def trailer : Byte := 0xFF#8
/-- `REQ_PLEN`: payload length of a request (R12). -/
def reqPlen : Byte := 0x08#8
/-- `FRAME_MAX`: the size of `FB` (R12, R32). -/
def frameMax : Nat := 265
/-- `PBUF_SIZE`: the size of `PBUF` (R12, R27). -/
def pbufSize : Nat := 247
/-- `MAX_FIELDS`: most entries of one layout table (R12, R260). -/
def maxFields : Nat := 32
/-- `FIELD_INT_MAX`: widest unsigned integer field, in bytes (R12, R261). -/
def fieldIntMax : Nat := 8

/-- FREE VALUE (R27, U3): the byte that the n-th read of an unspecified `PBUF` byte returns.
A fresh argument is drawn for every such read. Log entry 10. -/
opaque freeByte : Nat → Byte

/-- FREE VALUE (R32, U4): what a buffer cell at this offset holds while no step has written it. Log entry 11. -/
opaque unwrittenByte : Nat → Byte

/-- OPEN parameter `LAYOUT` (R53, R267, R268, R270): the offset of entry `j` of kind `k`, before it is shaped to the
well-formedness rule R261. Log entry 12. -/
opaque openOffset : BitVec 3 → Nat → Nat

/-- OPEN parameter `LAYOUT`: the width of entry `j` of kind `k`, before it is shaped to R261. Log entry 12. -/
opaque openWidth : BitVec 3 → Nat → Nat

/-- OPEN parameter `LAYOUT`: whether entry `j` of kind `k` is a string. Log entries 12 and 27. -/
opaque openIsString : BitVec 3 → Nat → Bool

end Sys2Proof.Config
end

