-- ==== Sys2Proof/Syntax.lean ====
section
/-! DEFINITION. The abstract syntax: one constructor of `Instr` for every row of spec/opcode_table.json, in the
table's order, with the operands its row and rule name. -/

namespace Sys2Proof

/-- The shapes the drain classifier tells apart (R167). -/
inductive Shape where
  | ack
  | rsp
  | ctl
deriving DecidableEq, Repr

/-- The kinds that `raise Fault(K)` takes (R310, R322, R324). -/
inductive FatalKind where
  | frameSync
  | checksumMismatch
  | unexpectedResponseTarget
  | protocolDesync
  | timeout
  | ackFormat
  | ackSeqMismatch
deriving DecidableEq, Repr

/-- Why a move does not decode. -/
inductive DecodeError where
  /-- The move has no bytes. -/
  | emptyMove
  /-- The first byte is no format of the opcode table. -/
  | unknownFormat
  /-- The bytes after the format byte are not as many as the format has. -/
  | badLength
  /-- The bytes match no row of the format, or set a bit that the format does not have. -/
  | noRow
deriving DecidableEq, Repr

/-- The rows of spec/opcode_table.json. A frame row's operands are the bytes of the frame that its match does not fix.
A host write's operand is the whole 32-bit value written; the command rows of `CTRL` hold the other command bits and the
reserved bits of the same write (R301, log entry 18). -/
inductive Instr where
  -- frames on the wire
  /-- `FRAME_HEAD` (R101): the eight bytes of a frame head. -/
  | frameHead (type length reserved seq crcLo crcHi : Byte)
  /-- `REQ` (R102). -/
  | req (seq hcrcLo hcrcHi tc iid cntLo cntHi cid pcrcLo pcrcHi : Byte)
  /-- `RSP` (R103): `n` is the length byte, `rest` the bytes from frame offset 12 on. -/
  | rsp (n reserved seq hcrcLo hcrcHi tc : Byte) (rest : List Byte)
  /-- `ACK` (R104). -/
  | ack (seq crcLo crcHi : Byte)
  /-- `NAK` (R105). -/
  | nak (seq crcLo crcHi : Byte)
  /-- `ACK_OTHER` (R163): any other type byte in the acknowledgement shape. -/
  | ackOther (type seq crcLo crcHi : Byte)
  /-- `CTL` (R106): `rest` is the 22 bytes that are never examined. -/
  | ctl (rest : List Byte)
  -- host writes
  /-- `START` (R292): a `CTRL` write with bit 0 set; `clr`, `init` are its bits 1 and 2, `rsv` its bits 31:3. -/
  | start (clr init : Bool) (rsv : BitVec 29)
  /-- `CLR` (R293): a `CTRL` write with bit 1 set and bit 0 clear. -/
  | clr (init : Bool) (rsv : BitVec 29)
  /-- `HCRC_INIT` (R294): a `CTRL` write with bit 2 set and bits 1:0 clear. -/
  | hcrcInit (rsv : BitVec 29)
  /-- `HCRC_DIN` (R295). -/
  | hcrcDin (v : Word)
  /-- `WR_CFG` (R43). -/
  | wrCfg (v : Word)
  /-- `WR_SEQ` (R200). -/
  | wrSeq (v : Word)
  /-- `WR_CNT` (R200). -/
  | wrCnt (v : Word)
  /-- `WR_DESC` (R46). -/
  | wrDesc (v : Word)
  /-- `WR_KIND` (R24). -/
  | wrKind (v : Word)
  /-- `WR_FSEL` (R47). -/
  | wrFsel (v : Word)
  /-- `WR_SUM_REM` (R297). -/
  | wrSumRem (v : Word)
  /-- `WR_SUM_FULL` (R297). -/
  | wrSumFull (v : Word)
  /-- `WR_SUM_STATE` (R297). -/
  | wrSumState (v : Word)
  /-- `WR_IGNORED` (R291): a write to a register that stores nothing. -/
  | wrIgnored (n : RegNum) (v : Word)
  -- host reads
  /-- `RD_CTRL` (R42). -/
  | rdCtrl
  /-- `RD_CFG` (R43). -/
  | rdCfg
  /-- `RD_STATUS` (R44). -/
  | rdStatus
  /-- `RD_ERR` (R45). -/
  | rdErr
  /-- `RD_SEQ` (R202). -/
  | rdSeq
  /-- `RD_CNT` (R202). -/
  | rdCnt
  /-- `RD_DESC` (R46). -/
  | rdDesc
  /-- `RD_KIND` (R24). -/
  | rdKind
  /-- `RD_RSEQ` (R25). -/
  | rdRseq
  /-- `RD_PLEN` (R26). -/
  | rdPlen
  /-- `RD_FSEL` (R47). -/
  | rdFsel
  /-- `RD_FMETA` (R277). -/
  | rdFmeta
  /-- `RD_FVAL_LO` (R264). -/
  | rdFvalLo
  /-- `RD_FVAL_HI` (R48). -/
  | rdFvalHi
  /-- `RD_DSTAT` (R49). -/
  | rdDstat
  /-- `RD_SUM_REM` (R50). -/
  | rdSumRem
  /-- `RD_SUM_FULL` (R50). -/
  | rdSumFull
  /-- `RD_SUM_STATE` (R50). -/
  | rdSumState
  /-- `RD_SUM_PCT_LO` (R273). -/
  | rdSumPctLo
  /-- `RD_SUM_PCT_HI` (R273). -/
  | rdSumPctHi
  /-- `RD_SUM_LABEL` (R274). -/
  | rdSumLabel
  /-- `RD_HCRC_DIN` (R51). -/
  | rdHcrcDin
  /-- `RD_HCRC_VAL` (R296). -/
  | rdHcrcVal
  /-- `RD_PBUF` (R27): register `0x100 + i`. -/
  | rdPbuf (i : Byte)
  /-- `RD_OTHER` (R290): a register number that is not in the map. -/
  | rdOther (n : RegNum)
  -- layout entries
  /-- `L0_BASE_STATUS` (R266). -/
  | l0BaseStatus
  /-- `L3_STATE` (R269). -/
  | l3State
  /-- `L3_PRESENT_RATE` (R269). -/
  | l3PresentRate
  /-- `L3_REMAINING_CAPACITY` (R269). -/
  | l3RemainingCapacity
  /-- `L3_PRESENT_VOLTAGE` (R269). -/
  | l3PresentVoltage
  /-- `FIELD_UINT` (R264). -/
  | fieldUint (offset width : Byte)
  /-- `FIELD_STRING` (R265). -/
  | fieldString (offset width : Byte)
  /-- `L1_POWER_SOURCE` (R267): contents OPEN. -/
  | l1PowerSource
  /-- `L2_BATTERY_STATUS` (R268): contents OPEN. -/
  | l2BatteryStatus
  /-- `L4_BATTERY_STATIC` (R270): entry `j` of twenty, contents OPEN. -/
  | l4BatteryStatic (j : Fin 20)
  -- state codes
  /-- `STATE_NONE` (R274). -/
  | stateNone
  /-- `STATE_DISCHARGING` (R274). -/
  | stateDischarging
  /-- `STATE_CHARGING` (R274). -/
  | stateCharging
  /-- `STATE_CRITICAL` (R274). -/
  | stateCritical
  /-- `STATE_CRITICAL_DISCHARGING` (R274). -/
  | stateCriticalDischarging
  /-- `STATE_CRITICAL_CHARGING` (R274). -/
  | stateCriticalCharging
  /-- `STATE_UNKNOWN` (R275): any other 32-bit value. -/
  | stateUnknown (v : Word)
  -- engine steps
  /-- `STEP_DRAIN_POP` (R212). -/
  | stepDrainPop
  /-- `STEP_DRAIN_PRE_DONE` (R213). -/
  | stepDrainPreDone
  /-- `STEP_SEND_REQUEST` (R214). -/
  | stepSendRequest
  /-- `STEP_ACK_POP` (R215). -/
  | stepAckPop
  /-- `STEP_ACK_OUTCOME` (R217). -/
  | stepAckOutcome
  /-- `STEP_RETRANSMIT` (R218). -/
  | stepRetransmit
  /-- `STEP_RSP_POP` (R220). -/
  | stepRspPop
  /-- `STEP_RSP_BODY` (R221). -/
  | stepRspBody
  /-- `STEP_SEND_ACK` (R222). -/
  | stepSendAck
  /-- `STEP_DRAIN_POST_DONE` (R223). -/
  | stepDrainPostDone
  /-- `STEP_TIMEOUT` (R332). -/
  | stepTimeout
  -- environment steps
  /-- `RX_ARRIVE` (R88). -/
  | rxArrive (b : Byte)
  /-- `TX_CONSUME` (R89). -/
  | txConsume
  /-- `RESET` (R350). -/
  | reset
  -- internal operations
  /-- `crc_bit` (R141). -/
  | crcBit (c : Half) (d : Bool)
  /-- `crc_update` (R142). -/
  | crcUpdate (c : Half) (b : Byte)
  /-- `crc16` (R143). -/
  | crc16 (bytes : List Byte)
  /-- `crc_split` (R144). -/
  | crcSplit (crc : Half)
  /-- `encode_request` (R160). -/
  | encodeRequest (tc iid cid seq : Byte) (cnt : Half)
  /-- `encode_ack` (R161). -/
  | encodeAck (seq : Byte)
  /-- `parse_ack` (R162), on `FB[0..9]`. -/
  | parseAck (expSeq : Byte)
  /-- `needs_retry` (R163). -/
  | needsRetry (type : Byte)
  /-- `parse_response_header` (R164), on `FB[0..7]`. -/
  | parseResponseHeader
  /-- `parse_response_body` (R165), on `FB[0..9+N]`. -/
  | parseResponseBody (tc iid cid : Byte) (cnt : Half)
  /-- `classify_shape` (R167). -/
  | classifyShape (b0 b1 b2 : Byte)
  /-- `drain_length` (R168). -/
  | drainLength (shape : Shape) (b3 : Byte)
  /-- `advance` (R201). -/
  | advance
  /-- `req_len` (R262). -/
  | reqLen (k : BitVec 3)
  /-- `pct` (R273), on `SUM_REM` and `SUM_FULL`. -/
  | pct
  /-- `raise_fault` (R324). -/
  | raiseFault (k : FatalKind)
  /-- `abort` (R325). -/
  | abort
deriving DecidableEq, Repr

end Sys2Proof
end

