-- ==== Sys2Proof/Machine/Fields.lean ====
section
/-! DEFINITION. Byte order and bit-field helpers, the register map's two membership tests (10_state.md R41), and the
well-formedness of one layout entry (44_payload_decoder.md R261). -/

namespace Sys2Proof

/-- `lo(v) = v[7:0]` (R14). -/
def loByte (v : Half) : Byte := v.extractLsb' 0 8

/-- `hi(v) = v[15:8]` (R14). -/
def hiByte (v : Half) : Byte := v.extractLsb' 8 8

/-- A 16-bit value from its low and high byte (R72, R108). -/
def half (lo hi : Byte) : Half := hi ++ lo

/-- Byte `k` of a 32-bit value, byte 0 the least significant (R14). -/
def wordByte (v : Word) (k : Nat) : Byte := v.extractLsb' (8 * k) 8

/-- A 32-bit value from its four bytes, least significant first. -/
def wordOf (b0 b1 b2 b3 : Byte) : Word := b3 ++ b2 ++ b1 ++ b0

/-- The low byte of a register number. -/
def regLo (n : RegNum) : Byte := n.extractLsb' 0 8

/-- The four high bits of a register number, as a byte. -/
def regHi (n : RegNum) : Byte := (n.extractLsb' 8 4).zeroExtend 8

/-- A register number from two bytes, least significant first (the upper four bits of the second byte are cut off). -/
def regOf (lo hi : Byte) : RegNum := hi.extractLsb' 0 4 ++ lo

/-- The byte `n` as a one-bit flag. -/
def flagByte (b : Bool) : Byte := if b then 1#8 else 0#8

/-- The fault kind codes of R310 that `raise Fault(K)` takes. -/
def FatalKind.code : FatalKind → BitVec 4
  | .frameSync => 1#4
  | .checksumMismatch => 2#4
  | .unexpectedResponseTarget => 3#4
  | .protocolDesync => 4#4
  | .timeout => 8#4
  | .ackFormat => 9#4
  | .ackSeqMismatch => 10#4

/-- One register of the map has the first command or store in R291: the numbers a write can act on. -/
def isWritable (n : RegNum) : Bool :=
  n ∈ [0x000#12, 0x001#12, 0x004#12, 0x005#12, 0x006#12, 0x007#12, 0x00A#12, 0x010#12, 0x011#12, 0x012#12, 0x016#12]

/-- The numbers of the register map that have a read row of their own (R41, R290); `PBUF` is `0x100` to `0x1F6`. -/
def isReadable (n : RegNum) : Bool :=
  n ∈ [0x000#12, 0x001#12, 0x002#12, 0x003#12, 0x004#12, 0x005#12, 0x006#12, 0x007#12, 0x008#12, 0x009#12, 0x00A#12,
       0x00B#12, 0x00C#12, 0x00D#12, 0x00E#12, 0x010#12, 0x011#12, 0x012#12, 0x013#12, 0x014#12, 0x015#12, 0x016#12,
       0x017#12]
  || (0x100 ≤ n.toNat && n.toNat ≤ 0x1F6)

/-- R261 for one entry: width at least 1, inside `PBUF`, and an integer at most 8 bytes wide. -/
def entryFits (offset width : Byte) (isString : Bool) : Bool :=
  1 ≤ width.toNat && offset.toNat + width.toNat ≤ Config.pbufSize && (isString || width.toNat ≤ Config.fieldIntMax)

/-- The 17-bit ROM word of a layout entry (R113). -/
def layoutWord (offset width : Byte) (isString : Bool) : BitVec 17 := BitVec.ofBool isString ++ width ++ offset

/-- The ROM words that have a row of their own in the opcode table (R266, R269). -/
def isKnownLayoutWord (w : BitVec 17) : Bool :=
  w ∈ [0x00100#17, 0x00400#17, 0x00404#17, 0x00408#17, 0x0040C#17]

/-- The battery state codes that have a label (R115, R274). -/
def isKnownState (v : Word) : Bool := v ∈ [0#32, 1#32, 2#32, 4#32, 5#32, 6#32]

end Sys2Proof
end

