-- ==== Sys2Proof/WellFormed.lean ====
section
/-! DEFINITION. Which terms of `Instr` are instructions: the operand ranges and the side conditions of the rows'
rules, and that a term stands in the most specific row that its bits match (30_encoding.md R118). -/

namespace Sys2Proof

/-- Well-formedness of an instruction. -/
def Instr.wf : Instr → Bool
  | .frameHead .. | .req .. | .ack .. | .nak .. => true
  -- a response that an exchange can accept has N from 8 to 255 and N + 10 bytes (R103, R119)
  | .rsp n _ _ _ _ _ rest => 8 ≤ n.toNat && rest.length + 2 == n.toNat
  | .ackOther t _ _ _ => t != Config.typeAck && t != Config.typeNak
  | .ctl rest => rest.length == 22
  | .start .. | .clr .. | .hcrcInit .. | .hcrcDin .. | .wrCfg .. | .wrSeq .. | .wrCnt .. | .wrDesc .. | .wrKind ..
  | .wrFsel .. | .wrSumRem .. | .wrSumFull .. | .wrSumState .. => true
  -- any other register number, or a CTRL write with no command bit (R112, R291)
  | .wrIgnored n v => !isWritable n || (n == 0#12 && v.extractLsb' 0 3 == 0#3)
  | .rdCtrl | .rdCfg | .rdStatus | .rdErr | .rdSeq | .rdCnt | .rdDesc | .rdKind | .rdRseq | .rdPlen | .rdFsel | .rdFmeta
  | .rdFvalLo | .rdFvalHi | .rdDstat | .rdSumRem | .rdSumFull | .rdSumState | .rdSumPctLo | .rdSumPctHi | .rdSumLabel
  | .rdHcrcDin | .rdHcrcVal => true
  | .rdPbuf i => i.toNat < Config.pbufSize
  | .rdOther n => !isReadable n
  | .l0BaseStatus | .l3State | .l3PresentRate | .l3RemainingCapacity | .l3PresentVoltage => true
  | .fieldUint o w => entryFits o w false && !isKnownLayoutWord (layoutWord o w false)
  | .fieldString o w => entryFits o w true
  | .l1PowerSource | .l2BatteryStatus | .l4BatteryStatic _ => true
  | .stateNone | .stateDischarging | .stateCharging | .stateCritical | .stateCriticalDischarging
  | .stateCriticalCharging => true
  | .stateUnknown v => !isKnownState v
  | .stepDrainPop | .stepDrainPreDone | .stepSendRequest | .stepAckPop | .stepAckOutcome | .stepRetransmit | .stepRspPop
  | .stepRspBody | .stepSendAck | .stepDrainPostDone | .stepTimeout => true
  | .rxArrive _ | .txConsume | .reset => true
  | .crcBit .. | .crcUpdate .. | .crc16 _ | .crcSplit _ | .encodeRequest .. | .encodeAck _ | .parseAck _ | .needsRetry _
  | .parseResponseHeader | .parseResponseBody .. | .classifyShape .. | .drainLength .. | .advance | .reqLen _ | .pct
  | .raiseFault _ | .abort => true

end Sys2Proof
end

