-- ==== Sys2Proof/Decode.lean ====
section
/-! DEFINITION. The decoder from a move's bytes to an instruction, total on any bytes and rejecting by name, and after
it the encoder. A move is one format byte (the model's own, log entry 4) and then the spec's encoding of that format:
wire frames in wire order (30_encoding.md R101 to R106), a host access as register number and value (R112, R118), the
17-bit ROM word of a layout entry (R113), the 32-bit state code (R118). -/

namespace Sys2Proof

/-- The formats of the opcode table (R118), in the order of the format bytes 1 to 13. The OPEN layout entries have no ROM
word in the table, so they are named by position (log entry 4). -/
inductive Format where
  | frameHead | frameReq | frameRsp | frameAck | frameCtl | hostWrite | hostRead | layoutEntry | layoutOpen | stateCode
  | engineStep | envStep | operation
deriving DecidableEq, Repr

/-- The format byte of a move. -/
def Format.tag : Format → Byte
  | .frameHead => 1#8
  | .frameReq => 2#8
  | .frameRsp => 3#8
  | .frameAck => 4#8
  | .frameCtl => 5#8
  | .hostWrite => 6#8
  | .hostRead => 7#8
  | .layoutEntry => 8#8
  | .layoutOpen => 9#8
  | .stateCode => 10#8
  | .engineStep => 11#8
  | .envStep => 12#8
  | .operation => 13#8

/-- The format a format byte names. -/
def formatOf (t : Byte) : Option Format :=
  match t.toNat with
  | 1 => some .frameHead
  | 2 => some .frameReq
  | 3 => some .frameRsp
  | 4 => some .frameAck
  | 5 => some .frameCtl
  | 6 => some .hostWrite
  | 7 => some .hostRead
  | 8 => some .layoutEntry
  | 9 => some .layoutOpen
  | 10 => some .stateCode
  | 11 => some .engineStep
  | 12 => some .envStep
  | 13 => some .operation
  | _ => none

/-- Row `FRAME_HEAD` (R101). -/
def decodeFrameHead : List Byte → Except DecodeError Instr
  | [p0, p1, t, l, r, s, c0, c1] =>
    if p0 = 0xAA#8 ∧ p1 = 0x55#8 then .ok (.frameHead t l r s c0 c1) else .error .noRow
  | _ => .error .badLength

/-- Row `REQ` (R102). -/
def decodeFrameReq : List Byte → Except DecodeError Instr
  | [p0, p1, t, l, r, s, h0, h1, q0, tc, q2, q3, iid, c0, c1, cid, k0, k1] =>
    if p0 = 0xAA#8 ∧ p1 = 0x55#8 ∧ t = 0x80#8 ∧ l = 0x08#8 ∧ r = 0x00#8 ∧ q0 = 0x80#8 ∧ q2 = 0x01#8 ∧ q3 = 0x00#8 then
      .ok (.req s h0 h1 tc iid c0 c1 cid k0 k1)
    else .error .noRow
  | _ => .error .badLength

/-- Row `RSP` (R103): matched by its first twelve bytes alone (R118). -/
def decodeFrameRsp : List Byte → Except DecodeError Instr
  | p0 :: p1 :: t :: n :: r :: s :: h0 :: h1 :: q0 :: tc :: q2 :: q3 :: rest =>
    if p0 = 0xAA#8 ∧ p1 = 0x55#8 ∧ t = 0x80#8 ∧ q0 = 0x80#8 ∧ q2 = 0x00#8 ∧ q3 = 0x01#8 then
      .ok (.rsp n r s h0 h1 tc rest)
    else .error .noRow
  | _ => .error .badLength

/-- Rows `ACK`, `NAK`, `ACK_OTHER` (R104, R105, R163), told apart by the type byte. -/
def decodeFrameAck : List Byte → Except DecodeError Instr
  | [p0, p1, t, z3, z4, s, c0, c1, t0, t1] =>
    if p0 = 0xAA#8 ∧ p1 = 0x55#8 ∧ z3 = 0x00#8 ∧ z4 = 0x00#8 ∧ t0 = 0xFF#8 ∧ t1 = 0xFF#8 then
      if t = 0x40#8 then .ok (.ack s c0 c1)
      else if t = 0x04#8 then .ok (.nak s c0 c1)
      else .ok (.ackOther t s c0 c1)
    else .error .noRow
  | _ => .error .badLength

/-- Row `CTL` (R106). -/
def decodeFrameCtl : List Byte → Except DecodeError Instr
  | m0 :: m1 :: m2 :: rest =>
    if m0 = 0x4E#8 ∧ m1 = 0x00#8 ∧ m2 = 0x53#8 then .ok (.ctl rest) else .error .noRow
  | _ => .error .badLength

/-- A write to `CTRL` (R112, R301): the first matching command row, which holds the other command bits. -/
def decodeCtrlWrite (v : Word) : Instr :=
  if v.getLsbD 0 then .start (v.getLsbD 1) (v.getLsbD 2) (v.extractLsb' 3 29)
  else if v.getLsbD 1 then .clr (v.getLsbD 2) (v.extractLsb' 3 29)
  else if v.getLsbD 2 then .hcrcInit (v.extractLsb' 3 29)
  else .wrIgnored 0x000#12 v

/-- The row of a host write of `v` to register `n` (R291). -/
def decodeWrite (n : RegNum) (v : Word) : Instr :=
  if n = 0x000#12 then decodeCtrlWrite v
  else if n = 0x016#12 then .hcrcDin v
  else if n = 0x001#12 then .wrCfg v
  else if n = 0x004#12 then .wrSeq v
  else if n = 0x005#12 then .wrCnt v
  else if n = 0x006#12 then .wrDesc v
  else if n = 0x007#12 then .wrKind v
  else if n = 0x00A#12 then .wrFsel v
  else if n = 0x010#12 then .wrSumRem v
  else if n = 0x011#12 then .wrSumFull v
  else if n = 0x012#12 then .wrSumState v
  else .wrIgnored n v

/-- Format `host_write`: the value's four bytes, then the register number's two, least significant first. -/
def decodeHostWrite : List Byte → Except DecodeError Instr
  | [v0, v1, v2, v3, n0, n1] =>
    if n1.toNat < 16 then .ok (decodeWrite (regOf n0 n1) (wordOf v0 v1 v2 v3)) else .error .noRow
  | _ => .error .badLength

/-- The row of a host read of register `n` (R41, R290). -/
def decodeRead (n : RegNum) : Instr :=
  if n = 0x000#12 then .rdCtrl
  else if n = 0x001#12 then .rdCfg
  else if n = 0x002#12 then .rdStatus
  else if n = 0x003#12 then .rdErr
  else if n = 0x004#12 then .rdSeq
  else if n = 0x005#12 then .rdCnt
  else if n = 0x006#12 then .rdDesc
  else if n = 0x007#12 then .rdKind
  else if n = 0x008#12 then .rdRseq
  else if n = 0x009#12 then .rdPlen
  else if n = 0x00A#12 then .rdFsel
  else if n = 0x00B#12 then .rdFmeta
  else if n = 0x00C#12 then .rdFvalLo
  else if n = 0x00D#12 then .rdFvalHi
  else if n = 0x00E#12 then .rdDstat
  else if n = 0x010#12 then .rdSumRem
  else if n = 0x011#12 then .rdSumFull
  else if n = 0x012#12 then .rdSumState
  else if n = 0x013#12 then .rdSumPctLo
  else if n = 0x014#12 then .rdSumPctHi
  else if n = 0x015#12 then .rdSumLabel
  else if n = 0x016#12 then .rdHcrcDin
  else if n = 0x017#12 then .rdHcrcVal
  else if 0x100 ≤ n.toNat ∧ n.toNat ≤ 0x1F6 then .rdPbuf (regLo n)
  else .rdOther n

/-- Format `host_read`: the register number's two bytes, least significant first. -/
def decodeHostRead : List Byte → Except DecodeError Instr
  | [n0, n1] => if n1.toNat < 16 then .ok (decodeRead (regOf n0 n1)) else .error .noRow
  | _ => .error .badLength

/-- The row of a 17-bit ROM word (R113), most specific first (R118). -/
def decodeLayoutWord (w : BitVec 17) : Instr :=
  if w = 0x00100#17 then .l0BaseStatus
  else if w = 0x00400#17 then .l3State
  else if w = 0x00404#17 then .l3PresentRate
  else if w = 0x00408#17 then .l3RemainingCapacity
  else if w = 0x0040C#17 then .l3PresentVoltage
  else if w.getLsbD 16 then .fieldString (w.extractLsb' 0 8) (w.extractLsb' 8 8)
  else .fieldUint (w.extractLsb' 0 8) (w.extractLsb' 8 8)

/-- Format `layout_entry`: offset, width, and the byte that holds bit 16 of the ROM word. -/
def decodeLayoutEntry : List Byte → Except DecodeError Instr
  | [o, w, e] =>
    if e = 0#8 then .ok (decodeLayoutWord (layoutWord o w false))
    else if e = 1#8 then .ok (decodeLayoutWord (layoutWord o w true))
    else .error .noRow
  | _ => .error .badLength

/-- The OPEN layout entries, named by kind and position (log entry 4). -/
def decodeLayoutOpen : List Byte → Except DecodeError Instr
  | [k, j] =>
    if k = 1#8 ∧ j = 0#8 then .ok .l1PowerSource
    else if k = 2#8 ∧ j = 0#8 then .ok .l2BatteryStatus
    else if h : k = 4#8 ∧ j.toNat < 20 then .ok (.l4BatteryStatic ⟨j.toNat, h.2⟩)
    else .error .noRow
  | _ => .error .badLength

/-- The row of a 32-bit state code (R274, R275). -/
def decodeStateWord (v : Word) : Instr :=
  if v = 0#32 then .stateNone
  else if v = 1#32 then .stateDischarging
  else if v = 2#32 then .stateCharging
  else if v = 4#32 then .stateCritical
  else if v = 5#32 then .stateCriticalDischarging
  else if v = 6#32 then .stateCriticalCharging
  else .stateUnknown v

/-- Format `state_code`: four bytes, least significant first. -/
def decodeStateCode : List Byte → Except DecodeError Instr
  | [v0, v1, v2, v3] => .ok (decodeStateWord (wordOf v0 v1 v2 v3))
  | _ => .error .badLength

/-- Format `engine_step`: the row's place in the table, from 0 (log entry 4). -/
def decodeEngineStep : List Byte → Except DecodeError Instr
  | [k] =>
    match k.toNat with
    | 0 => .ok .stepDrainPop
    | 1 => .ok .stepDrainPreDone
    | 2 => .ok .stepSendRequest
    | 3 => .ok .stepAckPop
    | 4 => .ok .stepAckOutcome
    | 5 => .ok .stepRetransmit
    | 6 => .ok .stepRspPop
    | 7 => .ok .stepRspBody
    | 8 => .ok .stepSendAck
    | 9 => .ok .stepDrainPostDone
    | 10 => .ok .stepTimeout
    | _ => .error .noRow
  | _ => .error .badLength

/-- Format `env_step`: the row's place in the table, from 0, then its operand (log entry 4). -/
def decodeEnvStep : List Byte → Except DecodeError Instr
  | [k] => if k = 1#8 then .ok .txConsume else if k = 2#8 then .ok .reset else .error .noRow
  | [k, b] => if k = 0#8 then .ok (.rxArrive b) else .error .noRow
  | _ => .error .badLength

/-- The drain shape a byte names: 0 `ACK_SHAPE`, 1 `RSP_SHAPE`, 2 `CTL_SHAPE`. DESIGN CHOICE, safe: R167 and R168 give the
shapes no numbers (log entry 4). -/
def shapeOf (b : Byte) : Option Shape :=
  if b = 0#8 then some .ack else if b = 1#8 then some .rsp else if b = 2#8 then some .ctl else none

/-- The kind of `raise Fault(K)` that a byte names by its code (R310). -/
def fatalKindOf (b : Byte) : Option FatalKind :=
  match b.toNat with
  | 1 => some .frameSync
  | 2 => some .checksumMismatch
  | 3 => some .unexpectedResponseTarget
  | 4 => some .protocolDesync
  | 8 => some .timeout
  | 9 => some .ackFormat
  | 10 => some .ackSeqMismatch
  | _ => none

/-- No operand. -/
def args0 (i : Instr) : List Byte → Except DecodeError Instr
  | [] => .ok i
  | _ => .error .noRow

/-- One operand byte. -/
def args1 (f : Byte → Except DecodeError Instr) : List Byte → Except DecodeError Instr
  | [a] => f a
  | _ => .error .noRow

/-- Two operand bytes. -/
def args2 (f : Byte → Byte → Except DecodeError Instr) : List Byte → Except DecodeError Instr
  | [a, b] => f a b
  | _ => .error .noRow

/-- Three operand bytes. -/
def args3 (f : Byte → Byte → Byte → Except DecodeError Instr) : List Byte → Except DecodeError Instr
  | [a, b, c] => f a b c
  | _ => .error .noRow

/-- Operands of `crc_bit`: the register, and the bit as 0 or 1. -/
def decodeCrcBit (c0 c1 d : Byte) : Except DecodeError Instr :=
  if d = 0#8 then .ok (.crcBit (half c0 c1) false)
  else if d = 1#8 then .ok (.crcBit (half c0 c1) true)
  else .error .noRow

/-- Operands of `encode_request`. -/
def decodeEncodeRequest : List Byte → Except DecodeError Instr
  | [tc, iid, cid, seq, c0, c1] => .ok (.encodeRequest tc iid cid seq (half c0 c1))
  | _ => .error .noRow

/-- Operands of `parse_response_body`. -/
def decodeParseResponseBody : List Byte → Except DecodeError Instr
  | [tc, iid, cid, c0, c1] => .ok (.parseResponseBody tc iid cid (half c0 c1))
  | _ => .error .noRow

/-- Operands of `drain_length`. -/
def decodeDrainLength (sh b3 : Byte) : Except DecodeError Instr :=
  match shapeOf sh with
  | some x => .ok (.drainLength x b3)
  | none => .error .noRow

/-- Operand of `req_len`: a kind, 3 bits. -/
def decodeReqLen (x : Byte) : Except DecodeError Instr :=
  if x.toNat < 8 then .ok (.reqLen (x.extractLsb' 0 3)) else .error .noRow

/-- Operand of `raise_fault`: a kind's code (R310). -/
def decodeRaiseFault (c : Byte) : Except DecodeError Instr :=
  match fatalKindOf c with
  | some x => .ok (.raiseFault x)
  | none => .error .noRow

/-- The operands of operation number `k`, the row's place in the table from 0 (log entry 4). -/
def decodeOperands (k : Nat) (args : List Byte) : Except DecodeError Instr :=
  match k with
  | 0 => args3 decodeCrcBit args
  | 1 => args3 (fun c0 c1 b => .ok (.crcUpdate (half c0 c1) b)) args
  | 2 => .ok (.crc16 args)
  | 3 => args2 (fun c0 c1 => .ok (.crcSplit (half c0 c1))) args
  | 4 => decodeEncodeRequest args
  | 5 => args1 (fun seq => .ok (.encodeAck seq)) args
  | 6 => args1 (fun seq => .ok (.parseAck seq)) args
  | 7 => args1 (fun t => .ok (.needsRetry t)) args
  | 8 => args0 .parseResponseHeader args
  | 9 => decodeParseResponseBody args
  | 10 => args3 (fun b0 b1 b2 => .ok (.classifyShape b0 b1 b2)) args
  | 11 => args2 decodeDrainLength args
  | 12 => args0 .advance args
  | 13 => args1 decodeReqLen args
  | 14 => args0 .pct args
  | 15 => args1 decodeRaiseFault args
  | 16 => args0 .abort args
  | _ => .error .noRow

/-- Format `operation`: the operation's number, then its operands. -/
def decodeOperation : List Byte → Except DecodeError Instr
  | k :: args => decodeOperands k.toNat args
  | [] => .error .badLength

/-- The bytes after the format byte, by format. -/
def decodeBody (f : Format) (bytes : List Byte) : Except DecodeError Instr :=
  match f with
  | .frameHead => decodeFrameHead bytes
  | .frameReq => decodeFrameReq bytes
  | .frameRsp => decodeFrameRsp bytes
  | .frameAck => decodeFrameAck bytes
  | .frameCtl => decodeFrameCtl bytes
  | .hostWrite => decodeHostWrite bytes
  | .hostRead => decodeHostRead bytes
  | .layoutEntry => decodeLayoutEntry bytes
  | .layoutOpen => decodeLayoutOpen bytes
  | .stateCode => decodeStateCode bytes
  | .engineStep => decodeEngineStep bytes
  | .envStep => decodeEnvStep bytes
  | .operation => decodeOperation bytes

/-- The decoder: the instruction that a move's bytes stand for, or why there is none. -/
def decode : List Byte → Except DecodeError Instr
  | [] => .error .emptyMove
  | t :: bytes =>
    match formatOf t with
    | some f => decodeBody f bytes
    | none => .error .unknownFormat

/-! ### The encoder -/

/-- The move of a host write of `v` to register `n`. -/
def encodeWrite (n : RegNum) (v : Word) : List Byte :=
  [Format.hostWrite.tag, wordByte v 0, wordByte v 1, wordByte v 2, wordByte v 3, regLo n, regHi n]

/-- The value of a `CTRL` write with these command bits and these reserved bits (R42). -/
def ctrlWord (start clr init : Bool) (rsv : BitVec 29) : Word :=
  rsv ++ BitVec.ofBool init ++ BitVec.ofBool clr ++ BitVec.ofBool start

/-- The move of a host read of register `n`. -/
def encodeRead (n : RegNum) : List Byte := [Format.hostRead.tag, regLo n, regHi n]

/-- The move of a layout entry's ROM word. -/
def encodeLayout (offset width : Byte) (isString : Bool) : List Byte :=
  [Format.layoutEntry.tag, offset, width, flagByte isString]

/-- The move of a state code. -/
def encodeState (v : Word) : List Byte :=
  [Format.stateCode.tag, wordByte v 0, wordByte v 1, wordByte v 2, wordByte v 3]

/-- The move of engine step number `k`. -/
def encodeStep (k : Byte) : List Byte := [Format.engineStep.tag, k]

/-- The move of operation number `k` with operand bytes `args`. -/
def encodeOp (k : Byte) (args : List Byte) : List Byte := Format.operation.tag :: k :: args

/-- The byte that names a drain shape, by the codes of `shapeOf`. DESIGN CHOICE, safe (log entry 4). -/
def shapeByte : Shape → Byte
  | .ack => 0#8
  | .rsp => 1#8
  | .ctl => 2#8

/-- The move of an instruction. -/
def encode : Instr → List Byte
  | .frameHead t l r s c0 c1 => [Format.frameHead.tag, 0xAA#8, 0x55#8, t, l, r, s, c0, c1]
  | .req s h0 h1 tc iid c0 c1 cid k0 k1 =>
    [Format.frameReq.tag, 0xAA#8, 0x55#8, 0x80#8, 0x08#8, 0x00#8, s, h0, h1, 0x80#8, tc, 0x01#8, 0x00#8, iid, c0, c1, cid,
     k0, k1]
  | .rsp n r s h0 h1 tc rest =>
    Format.frameRsp.tag :: 0xAA#8 :: 0x55#8 :: 0x80#8 :: n :: r :: s :: h0 :: h1 :: 0x80#8 :: tc :: 0x00#8 :: 0x01#8 :: rest
  | .ack s c0 c1 => [Format.frameAck.tag, 0xAA#8, 0x55#8, 0x40#8, 0x00#8, 0x00#8, s, c0, c1, 0xFF#8, 0xFF#8]
  | .nak s c0 c1 => [Format.frameAck.tag, 0xAA#8, 0x55#8, 0x04#8, 0x00#8, 0x00#8, s, c0, c1, 0xFF#8, 0xFF#8]
  | .ackOther t s c0 c1 => [Format.frameAck.tag, 0xAA#8, 0x55#8, t, 0x00#8, 0x00#8, s, c0, c1, 0xFF#8, 0xFF#8]
  | .ctl rest => Format.frameCtl.tag :: 0x4E#8 :: 0x00#8 :: 0x53#8 :: rest
  | .start c i rsv => encodeWrite 0x000#12 (ctrlWord true c i rsv)
  | .clr i rsv => encodeWrite 0x000#12 (ctrlWord false true i rsv)
  | .hcrcInit rsv => encodeWrite 0x000#12 (ctrlWord false false true rsv)
  | .hcrcDin v => encodeWrite 0x016#12 v
  | .wrCfg v => encodeWrite 0x001#12 v
  | .wrSeq v => encodeWrite 0x004#12 v
  | .wrCnt v => encodeWrite 0x005#12 v
  | .wrDesc v => encodeWrite 0x006#12 v
  | .wrKind v => encodeWrite 0x007#12 v
  | .wrFsel v => encodeWrite 0x00A#12 v
  | .wrSumRem v => encodeWrite 0x010#12 v
  | .wrSumFull v => encodeWrite 0x011#12 v
  | .wrSumState v => encodeWrite 0x012#12 v
  | .wrIgnored n v => encodeWrite n v
  | .rdCtrl => encodeRead 0x000#12
  | .rdCfg => encodeRead 0x001#12
  | .rdStatus => encodeRead 0x002#12
  | .rdErr => encodeRead 0x003#12
  | .rdSeq => encodeRead 0x004#12
  | .rdCnt => encodeRead 0x005#12
  | .rdDesc => encodeRead 0x006#12
  | .rdKind => encodeRead 0x007#12
  | .rdRseq => encodeRead 0x008#12
  | .rdPlen => encodeRead 0x009#12
  | .rdFsel => encodeRead 0x00A#12
  | .rdFmeta => encodeRead 0x00B#12
  | .rdFvalLo => encodeRead 0x00C#12
  | .rdFvalHi => encodeRead 0x00D#12
  | .rdDstat => encodeRead 0x00E#12
  | .rdSumRem => encodeRead 0x010#12
  | .rdSumFull => encodeRead 0x011#12
  | .rdSumState => encodeRead 0x012#12
  | .rdSumPctLo => encodeRead 0x013#12
  | .rdSumPctHi => encodeRead 0x014#12
  | .rdSumLabel => encodeRead 0x015#12
  | .rdHcrcDin => encodeRead 0x016#12
  | .rdHcrcVal => encodeRead 0x017#12
  | .rdPbuf i => [Format.hostRead.tag, i, 1#8]
  | .rdOther n => encodeRead n
  | .l0BaseStatus => encodeLayout 0#8 1#8 false
  | .l3State => encodeLayout 0#8 4#8 false
  | .l3PresentRate => encodeLayout 4#8 4#8 false
  | .l3RemainingCapacity => encodeLayout 8#8 4#8 false
  | .l3PresentVoltage => encodeLayout 12#8 4#8 false
  | .fieldUint o w => encodeLayout o w false
  | .fieldString o w => encodeLayout o w true
  | .l1PowerSource => [Format.layoutOpen.tag, 1#8, 0#8]
  | .l2BatteryStatus => [Format.layoutOpen.tag, 2#8, 0#8]
  | .l4BatteryStatic j => [Format.layoutOpen.tag, 4#8, BitVec.ofNat 8 j.val]
  | .stateNone => encodeState 0#32
  | .stateDischarging => encodeState 1#32
  | .stateCharging => encodeState 2#32
  | .stateCritical => encodeState 4#32
  | .stateCriticalDischarging => encodeState 5#32
  | .stateCriticalCharging => encodeState 6#32
  | .stateUnknown v => encodeState v
  | .stepDrainPop => encodeStep 0#8
  | .stepDrainPreDone => encodeStep 1#8
  | .stepSendRequest => encodeStep 2#8
  | .stepAckPop => encodeStep 3#8
  | .stepAckOutcome => encodeStep 4#8
  | .stepRetransmit => encodeStep 5#8
  | .stepRspPop => encodeStep 6#8
  | .stepRspBody => encodeStep 7#8
  | .stepSendAck => encodeStep 8#8
  | .stepDrainPostDone => encodeStep 9#8
  | .stepTimeout => encodeStep 10#8
  | .rxArrive b => [Format.envStep.tag, 0#8, b]
  | .txConsume => [Format.envStep.tag, 1#8]
  | .reset => [Format.envStep.tag, 2#8]
  | .crcBit c d => encodeOp 0#8 [loByte c, hiByte c, flagByte d]
  | .crcUpdate c b => encodeOp 1#8 [loByte c, hiByte c, b]
  | .crc16 bytes => encodeOp 2#8 bytes
  | .crcSplit c => encodeOp 3#8 [loByte c, hiByte c]
  | .encodeRequest tc iid cid seq cnt => encodeOp 4#8 [tc, iid, cid, seq, loByte cnt, hiByte cnt]
  | .encodeAck seq => encodeOp 5#8 [seq]
  | .parseAck seq => encodeOp 6#8 [seq]
  | .needsRetry t => encodeOp 7#8 [t]
  | .parseResponseHeader => encodeOp 8#8 []
  | .parseResponseBody tc iid cid cnt => encodeOp 9#8 [tc, iid, cid, loByte cnt, hiByte cnt]
  | .classifyShape b0 b1 b2 => encodeOp 10#8 [b0, b1, b2]
  | .drainLength sh b3 => encodeOp 11#8 [shapeByte sh, b3]
  | .advance => encodeOp 12#8 []
  | .reqLen k => encodeOp 13#8 [k.zeroExtend 8]
  | .pct => encodeOp 14#8 []
  | .raiseFault k => encodeOp 15#8 [k.code.zeroExtend 8]
  | .abort => encodeOp 16#8 []

/-! ### The opcode table's numbering -/

/-- Byte `k` of the number `w`. -/
def natByte (w k : Nat) : Byte := BitVec.ofNat 8 (w / 256 ^ k)

/-- The first `n` bytes of the number `w`, the least significant first. -/
def natBytes (w n : Nat) : List Byte := (List.range n).map (natByte w)

/-- A five-digit row of the table read bit by bit: bit `j` of `w` is the hexadecimal digit `j` of the ROM word
(the reader's `fixed` positions of `FIELD_UINT` and `FIELD_STRING`, log entry 23). -/
def layoutDigits (w : Nat) : Nat :=
  (List.range 5).foldl (fun acc j => acc + (w / 2 ^ j % 2) * 16 ^ j) 0

/-- The move that an `nbits`-bit word `w` of the opcode table stands for: its format by its length (log entry 23), every
bit above `nbits` zero. -/
def tableMove (nbits w : Nat) : Option (List Byte) :=
  if nbits ≤ 8 then some (Format.layoutEntry.tag :: natBytes (layoutDigits w) 3)
  else if nbits = 16 then some (Format.frameHead.tag :: (natBytes w 2 ++ List.replicate 6 0#8))
  else if nbits = 24 then
    if w % 2 ^ 24 = 0x53004E then some (Format.frameCtl.tag :: (natBytes w 3 ++ List.replicate 22 0#8))
    else some (Format.layoutEntry.tag :: natBytes w 3)
  else if nbits = 32 then some (Format.stateCode.tag :: natBytes w 4)
  else if nbits = 48 then some (Format.hostWrite.tag :: natBytes w 6)
  else if nbits = 80 then some (Format.frameAck.tag :: natBytes w 10)
  else if nbits = 96 then
    some (Format.frameRsp.tag :: (natBytes w 12 ++ List.replicate ((natByte w 3).toNat - 2) 0#8))
  else if nbits = 128 then some (Format.frameReq.tag :: (natBytes w 16 ++ List.replicate 2 0#8))
  else none

/-- The instruction that the decoder reads from a word of the opcode table. -/
def decodeTableWord (nbits w : Nat) : Option Instr :=
  match tableMove nbits w with
  | some m => (decode m).toOption
  | none => none

end Sys2Proof
end

