-- ==== Sys2Proof/Machine/State.lean ====
section
/-! DEFINITION. The machine's state as plain data (10_state.md), the reasons a step can stop, and the state after
reset (R54, R350). -/

namespace Sys2Proof.Machine

/-- The eleven values of the state register `ST` (R28); codes 11 to 15 are never held (U14). -/
inductive St where
  | idle | drainPre | requestSent | awaitAck | retrying | awaitRsp | rspAcked | drainPost | done | aborted | faulted
deriving DecidableEq, Repr

/-- The kinds that `ERR` records (R310): the fatal ones, and `AckRetryExhausted` (R317). `OutOfRangeError` and
`UnknownStateCode` are never written to `ERR` (R333). -/
inductive ErrKind where
  | fatal (k : FatalKind)
  | ackRetryExhausted
deriving DecidableEq, Repr

/-- The contents of `ERR` when a kind is recorded (R45): the kind and the stage. -/
structure ErrRecord where
  kind : ErrKind
  stage : St
deriving DecidableEq, Repr

/-- `DESC` (R23). -/
structure Desc where
  tc : Byte
  iid : Byte
  cid : Byte
deriving DecidableEq, Repr

/-- `CFG` (R43). -/
structure Cfg where
  ie : Bool
  tmoEn : Bool
deriving DecidableEq, Repr

/-- A byte buffer: (offset, byte) pairs, offsets strictly rising. An unlisted offset holds no stored value (R27, R32). -/
abbrev Memory := List Host.Cell

/-- The MODEL's own type: the value that an internal operation, a layout row or a state-code row returned (log entry 7). -/
inductive OpResult where
  | nothing
  | crc (c : Half)
  | crcBytes (lo hi : Byte)
  | frame (bytes : List Byte)
  | ackParsed (type seq : Byte)
  | header (payloadLen : Byte)
  | body (seq : Byte) (payload : List Byte)
  /-- The function returned `Fault(K)`; nothing was raised (41_frame_codec.md, opening text). -/
  | returnedFault (k : FatalKind)
  | shape (s : Shape)
  | flag (b : Bool)
  | length (n : BitVec 9)
  | percent (v : BitVec 39)
  /-- The words `FMETA`, `FVAL_LO`, `FVAL_HI` of one field (R48). -/
  | field (fmeta lo hi : Word)
  /-- A `SUM_LABEL` word (R50). -/
  | label (w : Word)
deriving DecidableEq, Repr

/-- A fault: the machine stops. -/
inductive Fault where
  /-- Raised by an engine pop that would store at an offset outside `FB[0..264]` (R32, R70): no such byte exists. Safe: no
  state that keeps the invariant of the byte counter raises it. Log entry 20. -/
  | fbOutOfRange
deriving DecidableEq, Repr

/-- A refusal: no meaning. -/
inductive Refusal where
  /-- Raised by an arm of `exec` whose instruction has no meaning yet. Safe. -/
  | notModelled (mnemonic : String)
  /-- Raised by `step` when the next move's bytes decode to no instruction. Safe. Log entry 4. -/
  | undecodable (e : DecodeError)
  /-- Raised by `FIELD_UINT` and `FIELD_STRING` on an entry that breaks R261, which a model "must refuse" (U6). Safe.
  Log entry 13. -/
  | malformedLayoutEntry
deriving DecidableEq, Repr

/-- The state of SFPE (10_state.md), then the MODEL's own fields. -/
structure State where
  /-- `ST` (R28). -/
  st : St
  /-- `BC` (R29). -/
  bc : BitVec 9
  /-- `TL` (R30). -/
  tl : BitVec 9
  /-- `RETRY` (R31). -/
  retry : Bool
  /-- `FB` (R32). -/
  fb : Memory
  /-- `SEQ` (R21). -/
  seq : Byte
  /-- `CNT` (R22). -/
  cnt : Half
  /-- `DESC` (R23). -/
  desc : Desc
  /-- `KIND` (R24). -/
  kind : BitVec 3
  /-- `RSEQ` (R25). -/
  rseq : Byte
  /-- `PLEN` (R26). -/
  plen : Byte
  /-- `PBUF` (R27). -/
  pbuf : Memory
  /-- `STATUS.RETRIED` (R37). -/
  retried : Bool
  /-- `STATUS.NEEDS_RETRY` (R38). -/
  needsRetry : Bool
  /-- `STATUS.RX_OVR` (R40). -/
  rxOvr : Bool
  /-- `ERR` (R45); none reads as 0. Log entry 19. -/
  err : Option ErrRecord
  /-- `CFG` (R43). -/
  cfg : Cfg
  /-- `FSEL` (R47). -/
  fsel : BitVec 5
  /-- `SUM_REM` (R50). -/
  sumRem : Word
  /-- `SUM_FULL` (R50). -/
  sumFull : Word
  /-- `SUM_STATE` (R50). -/
  sumState : Word
  /-- `HCRC` (R51). -/
  hcrc : Half
  /-- `RXQ` (R55), oldest byte first. -/
  rxq : List Byte
  /-- `TXQ` (R56), oldest byte first. -/
  txq : List Byte
  /-- MODEL: the parameter `RX_FIFO_DEPTH` (R12, R88); none is unbounded. No step writes it. Log entry 9. -/
  rxDepth : Option Nat
  /-- MODEL: the bytes handed to the serial transmitter (R89), oldest first. Log entry 8. -/
  line : List Byte
  /-- MODEL: the agents' moves still to come, the next one first. Log entry 1. -/
  pending : List (List Byte)
  /-- MODEL: the value the last host read returned (R290). Log entry 6. -/
  rdata : Word
  /-- MODEL: the value the last operation returned. Log entry 7. -/
  opr : OpResult
  /-- MODEL: how many free bytes have been drawn. Log entry 10. -/
  draws : Nat
deriving DecidableEq, Repr

/-- The machine right after reset (R54, R350). -/
def State.reset : State where
  st := .idle
  bc := 0#9
  tl := 0#9
  retry := false
  fb := []
  seq := 0#8
  cnt := 0#16
  desc := ⟨0#8, 0#8, 0#8⟩
  kind := 0#3
  rseq := 0#8
  plen := 0#8
  pbuf := []
  retried := false
  needsRetry := false
  rxOvr := false
  err := none
  cfg := ⟨false, false⟩
  fsel := 0#5
  sumRem := 0#32
  sumFull := 0#32
  sumState := 0#32
  hcrc := 0xFFFF#16
  rxq := []
  txq := []
  rxDepth := none
  line := []
  pending := []
  rdata := 0#32
  opr := .nothing
  draws := 0

end Sys2Proof.Machine
end

