-- ==== Sys2Proof/Machine/Flags.lean ====
section
/-! DEFINITION. Codes and flags that are functions of the state (10_state.md R28, R33 to R39, R44, R45, R59). -/

namespace Sys2Proof.Machine

/-- The code of a state (R28). -/
def St.code : St → BitVec 4
  | .idle => 0#4
  | .drainPre => 1#4
  | .requestSent => 2#4
  | .awaitAck => 3#4
  | .retrying => 4#4
  | .awaitRsp => 5#4
  | .rspAcked => 6#4
  | .drainPost => 7#4
  | .done => 8#4
  | .aborted => 9#4
  | .faulted => 10#4

/-- The engine is in an exchange: codes 1 to 7 (R33). -/
def St.busy : St → Bool
  | .drainPre | .requestSent | .awaitAck | .retrying | .awaitRsp | .rspAcked | .drainPost => true
  | .idle | .done | .aborted | .faulted => false

/-- The three terminal states (R224 to R226). -/
def St.terminal : St → Bool
  | .done | .aborted | .faulted => true
  | .idle | .drainPre | .requestSent | .awaitAck | .retrying | .awaitRsp | .rspAcked | .drainPost => false

/-- The code of a recorded kind (R310, R317). -/
def ErrKind.code : ErrKind → BitVec 4
  | .fatal k => k.code
  | .ackRetryExhausted => 7#4

/-- `STATUS.RX_AVAIL` (R39). -/
def rxAvail (s : State) : Bool := !s.rxq.isEmpty

/-- The `STATUS` word (R44). -/
def statusWord (s : State) : Word :=
  0#20 ++ s.st.code ++ BitVec.ofBool s.rxOvr ++ BitVec.ofBool (rxAvail s) ++ BitVec.ofBool s.needsRetry
    ++ BitVec.ofBool s.retried ++ BitVec.ofBool (s.st == .faulted) ++ BitVec.ofBool (s.st == .aborted)
    ++ BitVec.ofBool (s.st == .done) ++ BitVec.ofBool s.st.busy

/-- The `ERR` word (R45): 0 when no kind is recorded. -/
def errWord : Option ErrRecord → Word
  | none => 0#32
  | some r => 0#24 ++ r.stage.code ++ r.kind.code

/-- The interrupt output (R59, R328). -/
def irq (s : State) : Bool := s.cfg.ie && s.st.terminal

/-- The engine waits for a byte in the sense of R227: it is in a state that pops bytes, `RXQ` is empty, and a drain is in
mid-frame. -/
def engineWaiting (s : State) : Bool :=
  s.rxq.isEmpty &&
    (s.st == .awaitAck || s.st == .awaitRsp || ((s.st == .drainPre || s.st == .drainPost) && s.bc != 0#9))

end Sys2Proof.Machine
end

