-- ==== Sys2Proof/Machine/Crc.lean ====
section
/-! DEFINITION. The CRC unit: CRC-16/CCITT-FALSE (40_crc16.md R140 to R145). -/

namespace Sys2Proof.Machine

/-- The generator polynomial (R140). -/
def crcPoly : Half := 0x1021#16

/-- The initial register value (R140). -/
def crcInit : Half := 0xFFFF#16

/-- One input bit into the CRC register (R141). -/
def crcBit (c : Half) (d : Bool) : Half :=
  let fb := d ^^ c.getLsbD 15
  if fb then (c <<< 1) ^^^ crcPoly else c <<< 1

/-- One round of the loop of R142. -/
def crcRound (c : Half) : Half :=
  if c.getLsbD 15 then (c <<< 1) ^^^ crcPoly else c <<< 1

/-- `crc_update(c, b)` (R142): the byte into the top of the register, then eight rounds. -/
def crcUpdate (c : Half) (b : Byte) : Half :=
  crcRound (crcRound (crcRound (crcRound (crcRound (crcRound (crcRound (crcRound
    (c ^^^ (b.zeroExtend 16 <<< 8)))))))))

/-- `crc16(B)` (R143). -/
def crc16 (bytes : List Byte) : Half := bytes.foldl crcUpdate crcInit

end Sys2Proof.Machine
end

