-- ==== Sys2Proof/Machine/FrameCodec.lean ====
section
/-! DEFINITION. The frame builders, the frame parsers and the drain classifier (41_frame_codec.md R160 to R168): pure
functions of their operands. A parser reads the frame through a function from offset to byte, so that it never asks for
a byte its rule does not name. -/

namespace Sys2Proof.Machine

/-- `encode_request` (R160). -/
def encodeRequest (tc iid cid seq : Byte) (cnt : Half) : List Byte :=
  let hdr := [Config.typeData, Config.reqPlen, 0x00#8, seq]
  let pld := [0x80#8, tc, 0x01#8, 0x00#8, iid, loByte cnt, hiByte cnt, cid]
  let ch := crc16 hdr
  let cp := crc16 pld
  [Config.preamble0, Config.preamble1] ++ hdr ++ [loByte ch, hiByte ch] ++ pld ++ [loByte cp, hiByte cp]

/-- `encode_ack` (R161). -/
def encodeAck (seq : Byte) : List Byte :=
  let hdr := [Config.typeAck, 0x00#8, 0x00#8, seq]
  let ch := crc16 hdr
  [Config.preamble0, Config.preamble1] ++ hdr ++ [loByte ch, hiByte ch] ++ [Config.trailer, Config.trailer]

/-- The bytes at offsets `a .. a+n-1` (`MemRead`, R15). -/
def slice (f : Nat → Byte) (a n : Nat) : List Byte := (List.range n).map fun i => f (a + i)

/-- The two bytes at offsets `a`, `a+1` are `lo, hi` of the CRC of the `n` bytes from offset `from_` (R144, R148). -/
def crcMatches (f : Nat → Byte) (from_ n a : Nat) : Bool :=
  let c := crc16 (slice f from_ n)
  f a == loByte c && f (a + 1) == hiByte c

/-- What `parse_ack` returns when it raises nothing (R162). -/
structure AckFields where
  type : Byte
  seq : Byte
deriving DecidableEq, Repr

/-- `parse_ack` (R162): the checks in the rule's order, the first that fails decides the kind (R323). -/
def parseAck (f : Nat → Byte) (expSeq : Byte) : Except FatalKind AckFields :=
  if f 0 ≠ Config.preamble0 ∨ f 1 ≠ Config.preamble1 then .error .frameSync
  else if f 3 ≠ 0x00#8 ∨ f 4 ≠ 0x00#8 then .error .ackFormat
  else if crcMatches f 2 4 6 = false then .error .checksumMismatch
  else if f 8 ≠ Config.trailer ∨ f 9 ≠ Config.trailer then .error .ackFormat
  else if f 2 = Config.typeAck ∧ f 5 ≠ expSeq then .error .ackSeqMismatch
  else .ok ⟨f 2, f 5⟩

/-- `needs_retry` (R163). -/
def needsRetryOf (type : Byte) : Bool := type == Config.typeNak

/-- `parse_response_header` (R164): the payload length, or a kind. -/
def parseResponseHeader (f : Nat → Byte) : Except FatalKind Byte :=
  if f 0 ≠ Config.preamble0 ∨ f 1 ≠ Config.preamble1 ∨ f 2 ≠ Config.typeData then .error .frameSync
  else if crcMatches f 2 4 6 = false then .error .checksumMismatch
  else .ok (f 3)

/-- The echo prefix that an accepted response's payload begins with (R103, R165). -/
def echoPrefix (tc iid cid : Byte) (cnt : Half) : List Byte :=
  [0x80#8, tc, 0x00#8, 0x01#8, iid, loByte cnt, hiByte cnt, cid]

/-- What `parse_response_body` returns when it raises nothing (R165, R166). -/
structure BodyFields where
  seq : Byte
  payload : List Byte
deriving DecidableEq, Repr

/-- `parse_response_body` (R165). -/
def parseResponseBody (f : Nat → Byte) (tc iid cid : Byte) (cnt : Half) : Except FatalKind BodyFields :=
  let n := (f 3).toNat
  if n < 8 then .error .unexpectedResponseTarget
  else if slice f 8 8 ≠ echoPrefix tc iid cid cnt then .error .unexpectedResponseTarget
  else if crcMatches f 8 n (8 + n) = false then .error .checksumMismatch
  else .ok ⟨f 5, slice f 16 (n - 8)⟩

/-- `classify_shape` (R167); none is `Fault(ProtocolDesyncError)`. -/
def classifyShape (b0 b1 b2 : Byte) : Option Shape :=
  if b0 = Config.preamble0 ∧ b1 = Config.preamble1 ∧ b2 = Config.typeAck then some .ack
  else if b0 = Config.preamble0 ∧ b1 = Config.preamble1 ∧ b2 = Config.typeData then some .rsp
  else if b0 = Config.ctl0 ∧ b1 = Config.ctl1 ∧ b2 = Config.ctl2 then some .ctl
  else none

/-- The total length of a data frame whose length byte is `n` (R108). -/
def frameLength (n : Byte) : BitVec 9 := n.zeroExtend 9 + 10#9

/-- `drain_length` (R168). -/
def drainLength (s : Shape) (b3 : Byte) : BitVec 9 :=
  match s with
  | .ack => 10#9
  | .ctl => 25#9
  | .rsp => frameLength b3

end Sys2Proof.Machine
end

