-- ==== Sys2Proof/Machine/Layout.lean ====
section
/-! DEFINITION. The layout tables and the payload decoder's functions (44_payload_decoder.md R260 to R271), and the
battery summary's two derivations (R273 to R275). All are pure (R276, R279). -/

namespace Sys2Proof.Machine

/-- A field's name: a label (R113, D35), or, for a table whose names no source gives, its place in the table. -/
inductive FieldName where
  | given (label : String)
  | unspelled (kind : BitVec 3) (index : Nat)
deriving DecidableEq, Repr

/-- One entry of a layout table (R113); `isString` is its bit `enc`. -/
structure Entry where
  name : FieldName
  offset : Byte
  width : Byte
  isString : Bool
deriving DecidableEq, Repr

/-- An OPEN entry from raw numbers, shaped so that R261 holds: every well-formed offset and width is the image of some raw
pair, and no other (log entry 12). -/
def openEntry (k : BitVec 3) (j o w : Nat) (isString : Bool) : Entry :=
  let width := w % (if isString then Config.pbufSize else Config.fieldIntMax) + 1
  let offset := o % (Config.pbufSize - width + 1)
  ⟨.unspelled k j, BitVec.ofNat 8 offset, BitVec.ofNat 8 width, isString⟩

/-- Entry `j` of the OPEN table of kind `k`. -/
def openEntryOf (k : BitVec 3) (isString : Nat → Bool) (j : Nat) : Entry :=
  openEntry k j (Config.openOffset k j) (Config.openWidth k j) (isString j)

/-- Which of the twenty static-info entries are strings: the OPEN choice where it has at least three strings and three
integers, as R270 says of the table, and else the first three (log entry 27). -/
def staticIsString (choice : Nat → Bool) : Nat → Bool :=
  let strings := (List.range 20).countP choice
  if 3 ≤ strings ∧ strings ≤ 17 then choice else fun j => j < 3

/-- `LAYOUT[0]` (R266). -/
def layoutBaseStatus : List Entry := [⟨.given "Base Status", 0#8, 1#8, false⟩]

/-- `LAYOUT[1]` (R267). -/
def layoutPowerSource : List Entry := [openEntryOf 1#3 (Config.openIsString 1#3) 0]

/-- `LAYOUT[2]` (R268). -/
def layoutBatteryStatus : List Entry := [openEntryOf 2#3 (Config.openIsString 2#3) 0]

/-- `LAYOUT[3]` (R269). -/
def layoutBatteryDynamic : List Entry :=
  [⟨.given "state", 0#8, 4#8, false⟩, ⟨.given "present rate", 4#8, 4#8, false⟩,
   ⟨.given "remaining capacity", 8#8, 4#8, false⟩, ⟨.given "present voltage", 12#8, 4#8, false⟩]

/-- `LAYOUT[4]` (R270). -/
def layoutBatteryStatic : List Entry :=
  (List.range 20).map (openEntryOf 4#3 (staticIsString (Config.openIsString 4#3)))

/-- `LAYOUT[k]` (R114, R260); kinds 5 to 7 are empty. -/
def layout (k : BitVec 3) : List Entry :=
  if k = 0#3 then layoutBaseStatus
  else if k = 1#3 then layoutPowerSource
  else if k = 2#3 then layoutBatteryStatus
  else if k = 3#3 then layoutBatteryDynamic
  else if k = 4#3 then layoutBatteryStatic
  else []

/-- One past the last payload byte that an entry reaches. -/
def entryEnd (e : Entry) : Nat := e.offset.toNat + e.width.toNat

/-- The length that a table requires (R262). -/
def reqOf (table : List Entry) : Nat := table.foldr (fun e acc => max (entryEnd e) acc) 0

/-- `req(k)` (R262). -/
def req (k : BitVec 3) : Nat := reqOf (layout k)

/-- The decode of a table does not fail: the payload is as long as the table requires (R263). -/
def decodeOk (plen : Byte) (table : List Entry) : Bool := reqOf table ≤ plen.toNat

/-- The number that `w` little-endian bytes from offset `o` hold (R74, R264). -/
def uintValue (f : Nat → Byte) (o : Nat) : Nat → Nat
  | 0 => 0
  | w + 1 => (f o).toNat + 256 * uintValue f (o + 1) w

/-- `decode_uint` (R264). -/
def decodeUint (f : Nat → Byte) (o w : Nat) : BitVec 64 := BitVec.ofNat 64 (uintValue f o w)

/-- The trimmed length of `decode_string` (R265). -/
def trimmedLength (f : Nat → Byte) (o : Nat) : Nat → Nat
  | 0 => 0
  | w + 1 => if f (o + w) = 0x00#8 then trimmedLength f o w else w + 1

/-- The `FMETA` word (R48). -/
def fmetaWord (isString valid : Bool) (offset width tlen : Byte) : Word :=
  tlen ++ width ++ offset ++ 0#6 ++ BitVec.ofBool valid ++ BitVec.ofBool isString

/-- The three words that show one field of a table whose decode is `ok` (R277). -/
structure FieldView where
  fmeta : Word
  lo : Word
  hi : Word
deriving DecidableEq, Repr

/-- The read ports for entry `e` (R277). -/
def viewEntry (f : Nat → Byte) (ok : Bool) (e : Entry) : FieldView :=
  if ok then
    if e.isString then
      ⟨fmetaWord true true e.offset e.width (BitVec.ofNat 8 (trimmedLength f e.offset.toNat e.width.toNat)), 0#32, 0#32⟩
    else
      let v := decodeUint f e.offset.toNat e.width.toNat
      ⟨fmetaWord false true e.offset e.width e.width, v.extractLsb' 0 32, v.extractLsb' 32 32⟩
  else ⟨fmetaWord e.isString false e.offset e.width 0#8, 0#32, 0#32⟩

/-- The read ports for field number `j` of a table (R277): all 0 past its last entry. -/
def viewField (f : Nat → Byte) (plen : Byte) (table : List Entry) (j : Nat) : FieldView :=
  match table[j]? with
  | some e => viewEntry f (decodeOk plen table) e
  | none => ⟨0#32, 0#32, 0#32⟩

/-- The fault kind code of `OutOfRangeError` (R310). -/
def outOfRangeCode : BitVec 4 := 5#4

/-- The `DSTAT` word (R49, R277). -/
def dstatWord (plen : Byte) (table : List Entry) : Word :=
  let ok := decodeOk plen table
  0#18 ++ BitVec.ofNat 6 table.length ++ 0#3 ++ (if ok then 0#4 else outOfRangeCode) ++ BitVec.ofBool ok

/-- `pct` (R273), on 39 bits. -/
def pct (rem full : Word) : BitVec 39 :=
  if full = 0#32 then 0#39 else BitVec.ofNat 39 (rem.toNat * 100 / full.toNat)

/-- The fault kind code of `UnknownStateCode` (R310). -/
def unknownStateCode : BitVec 4 := 6#4

/-- The `SUM_LABEL` word of a state code (R50, R274, R275). -/
def labelWord (v : Word) : Word :=
  if isKnownState v then 0#29 ++ v.extractLsb' 0 3
  else 0#16 ++ unknownStateCode ++ 0#3 ++ 1#1 ++ 0#8

end Sys2Proof.Machine
end

