-- ==== Sys2Proof/Machine/Ops.lean ====
section
/-! DEFINITION. The named operations over the buffers, the queues and the registers: every meaning is a few lines over
these. Fault entry, abort entry and the return to `IDLE` stand here once (60_exceptions.md R324 to R326). -/

namespace Sys2Proof.Machine

/-! ### Byte buffers -/

/-- The byte stored at offset `a`, if one is. -/
def Memory.read : Memory → Nat → Option Byte
  | [], _ => none
  | (k, b) :: m, a => if a = k then some b else Memory.read m a

/-- Store `b` at offset `a`, keeping the offsets strictly rising. -/
def Memory.write : Memory → Nat → Byte → Memory
  | [], a, b => [(a, b)]
  | (k, c) :: m, a, b =>
    if a < k then (a, b) :: (k, c) :: m
    else if a = k then (k, b) :: m
    else (k, c) :: Memory.write m a b

/-- The buffer that holds exactly `bytes` from offset `base` on. -/
def Memory.ofBytes (base : Nat) : List Byte → Memory
  | [] => []
  | b :: bs => (base, b) :: Memory.ofBytes (base + 1) bs

/-- The canonical form: every offset at least `low`, offsets strictly rising. -/
def Memory.wfFrom : Nat → Memory → Bool
  | _, [] => true
  | low, (k, _) :: m => low ≤ k && Memory.wfFrom (k + 1) m

/-- The canonical form of a buffer. No entry equals what an unlisted offset reads as, since that is no fixed byte. -/
def Memory.wf (m : Memory) : Bool := Memory.wfFrom 0 m

/-- Every listed offset is below `size`. -/
def Memory.below (m : Memory) (size : Nat) : Bool := m.all fun c => c.1 < size

/-- The byte at offset `a`: the stored one, or a free value where none is stored (R27, R32, U3, U4; log entry 11). -/
def Memory.byteAt (m : Memory) (a : Nat) : Byte := (Memory.read m a).getD (Config.unwrittenByte a)

/-- `FB[a]` (R32). -/
def fbByte (s : State) (a : Nat) : Byte := Memory.byteAt s.fb a

/-- `PBUF[a]` as the decoder reads it (R276). -/
def pbufByte (s : State) (a : Nat) : Byte := Memory.byteAt s.pbuf a

/-! ### Queues -/

/-- `rx_arrive(b)` (R88): appended while `RXQ` holds fewer than `RX_FIFO_DEPTH` bytes, else dropped with `RX_OVR` set. -/
def rxArrive (b : Byte) (s : State) : State :=
  match s.rxDepth with
  | none => { s with rxq := s.rxq ++ [b] }
  | some d => if s.rxq.length < d then { s with rxq := s.rxq ++ [b] } else { s with rxOvr := true }

/-- The bytes of a frame arrive in ascending offset (R75, R88). -/
def rxArriveAll (bytes : List Byte) (s : State) : State := bytes.foldl (fun t b => rxArrive b t) s

/-- `tx_consume` (R89): the head of `TXQ` goes to the serial transmitter; with `TXQ` empty it is not enabled and nothing
changes (log entry 3). -/
def txConsume (s : State) : State :=
  match s.txq with
  | [] => s
  | b :: q => { s with txq := q, line := s.line ++ [b] }

/-- `push(TXQ, B)` (R15): a whole frame in one step (R79). -/
def pushFrame (bytes : List Byte) (s : State) : State := { s with txq := s.txq ++ bytes }

/-- `FB[BC] <- b` with `b` just popped and `q` the rest of `RXQ`; none where `FB` has no such byte (R32, log entry 20). -/
def storePopped (b : Byte) (q : List Byte) (s : State) : Option State :=
  if s.bc.toNat < Config.frameMax then some { s with rxq := q, fb := Memory.write s.fb s.bc.toNat b } else none

/-! ### Exceptions -/

/-- Fault entry, `raise Fault(K)` (R324). -/
def raiseFault (k : FatalKind) (s : State) : State := { s with err := some ⟨.fatal k, s.st⟩, st := .faulted }

/-- Abort entry, `abort()` (R325). -/
def abortEntry (s : State) : State := { s with err := some ⟨.ackRetryExhausted, .awaitAck⟩, st := .aborted }

/-- The return from a terminal state, `CLR` (R293, R326). -/
def commandClr (s : State) : State :=
  if s.st.terminal then { s with st := .idle, retried := false, needsRetry := false, err := none, rxOvr := false }
  else if s.st = .idle then { s with rxOvr := false }
  else s

/-! ### Commands and counters -/

/-- `START` (R292). -/
def commandStart (s : State) : State :=
  if s.st = .idle then
    { s with st := .drainPre, bc := 0#9, tl := 0#9, retry := false, retried := false, needsRetry := false, err := none }
  else s

/-- `HCRC_INIT` (R294). -/
def commandHcrcInit (s : State) : State := { s with hcrc := crcInit }

/-- The command if its bit is set. -/
def commandIf (b : Bool) (f : State → State) (s : State) : State := if b then f s else s

/-- `advance()` (R201): both counters, silently modulo their widths. -/
def advanceCounters (s : State) : State := { s with seq := s.seq + 1#8, cnt := s.cnt + 1#16 }

/-- A write that is ignored while `STATUS.BUSY = 1` (R84). -/
def writeUnlessBusy (f : State → State) (s : State) : State := if s.st.busy then s else f s

/-- Push the request frame of the registers and await its acknowledgement (R214, R218). -/
def sendRequest (s : State) : State :=
  { pushFrame (encodeRequest s.desc.tc s.desc.iid s.desc.cid s.seq s.cnt) s with st := .awaitAck, bc := 0#9, tl := 10#9 }

/-! ### The engine's pops -/

/-- Drain pop after the byte `b` is stored at `FB[BC]` (R212): classify at the third byte, take a response's length from
the fourth, and drop the frame at its end. -/
def drainAfterStore (b : Byte) (s : State) : State :=
  let n := s.bc + 1#9
  if n = 3#9 then
    match classifyShape (fbByte s 0) (fbByte s 1) b with
    | none => raiseFault .protocolDesync { s with bc := 3#9 }
    | some .ack => { s with bc := n, tl := 10#9 }
    | some .ctl => { s with bc := n, tl := 25#9 }
    | some .rsp => { s with bc := n, tl := 0#9 }
  else
    let tl' := if n = 4#9 ∧ classifyShape (fbByte s 0) (fbByte s 1) (fbByte s 2) = some .rsp then frameLength b else s.tl
    if tl' ≠ 0#9 ∧ n = tl' then { s with bc := 0#9, tl := 0#9 } else { s with bc := n, tl := tl' }

/-- The acknowledgement outcome (R217), with the tenth byte stored and `BC = 10`. -/
def ackOutcome (s : State) : State :=
  match parseAck (fbByte s) s.seq with
  | .error k => raiseFault k s
  | .ok r =>
    let s1 := { s with needsRetry := needsRetryOf r.type }
    if needsRetryOf r.type = false then { s1 with st := .awaitRsp, bc := 0#9, tl := 0#9 }
    else if s.retry = false then { s1 with st := .retrying }
    else abortEntry s1

/-- The header check at the eighth byte of a response (R220). -/
def rspHeaderCheck (s : State) : State :=
  match parseResponseHeader (fbByte s) with
  | .error k => raiseFault k s
  | .ok n => { s with tl := frameLength n }

/-- The body check and the capture of the result (R221). -/
def rspBody (s : State) : State :=
  match parseResponseBody (fbByte s) s.desc.tc s.desc.iid s.desc.cid s.cnt with
  | .error k => raiseFault k s
  | .ok r =>
    { s with rseq := r.seq, plen := fbByte s 3 - 8#8, pbuf := Memory.ofBytes 0 r.payload, st := .rspAcked }

/-! ### Results -/

/-- The value that a host read returns (R290). -/
def hostReturns (v : Word) (s : State) : State := { s with rdata := v }

/-- The value that an operation returns. -/
def opReturns (r : OpResult) (s : State) : State := { s with opr := r }

/-- A pure operation that returns a value or a kind. -/
def opReturnsParsed {α : Type} (f : α → OpResult) (r : Except FatalKind α) (s : State) : State :=
  match r with
  | .ok a => opReturns (f a) s
  | .error k => opReturns (.returnedFault k) s

/-- Reset (R350): every piece of the spec's state takes its reset value; the MODEL's own fields are kept (log entry 21). -/
def resetKeeping (s : State) : State :=
  { State.reset with
    rxDepth := s.rxDepth, line := s.line, pending := s.pending, rdata := s.rdata, opr := s.opr, draws := s.draws }

end Sys2Proof.Machine
end

