-- ==== Sys2Proof/Machine/Operands.lean ====
section
/-! DEFINITION. The operand forms: what a host read of each register returns (10_state.md R41 to R51, 45_host_commands.md
R290), the fields of a written value (R291), and the operands of the decoder's rows. -/

namespace Sys2Proof.Machine

/-! ### Words that a host read returns -/

/-- `CFG` (R43). -/
def cfgWord (s : State) : Word := 0#30 ++ BitVec.ofBool s.cfg.tmoEn ++ BitVec.ofBool s.cfg.ie

/-- `SEQ` (R202). -/
def seqWord (s : State) : Word := s.seq.zeroExtend 32

/-- `CNT` (R202). -/
def cntWord (s : State) : Word := s.cnt.zeroExtend 32

/-- `DESC` (R46). -/
def descWord (s : State) : Word := 0#8 ++ s.desc.cid ++ s.desc.iid ++ s.desc.tc

/-- `KIND` (R24). -/
def kindWord (s : State) : Word := s.kind.zeroExtend 32

/-- `RSEQ` (R25). -/
def rseqWord (s : State) : Word := s.rseq.zeroExtend 32

/-- `PLEN` (R26). -/
def plenWord (s : State) : Word := s.plen.zeroExtend 32

/-- `FSEL` (R47). -/
def fselWord (s : State) : Word := s.fsel.zeroExtend 32

/-- The decoder's view of field number `FSEL` of `LAYOUT[KIND]` (R48, R277). -/
def selectedField (s : State) : FieldView := viewField (pbufByte s) s.plen (layout s.kind) s.fsel.toNat

/-- `DSTAT` (R49, R277). -/
def dstat (s : State) : Word := dstatWord s.plen (layout s.kind)

/-- `SUM_PCT` (R273), 39 bits. -/
def sumPct (s : State) : BitVec 39 := pct s.sumRem s.sumFull

/-- `SUM_PCT_LO` (R50). -/
def sumPctLoWord (s : State) : Word := (sumPct s).extractLsb' 0 32

/-- `SUM_PCT_HI` (R50). -/
def sumPctHiWord (s : State) : Word := ((sumPct s).extractLsb' 32 7).zeroExtend 32

/-- `HCRC_VAL` (R296). -/
def hcrcWord (s : State) : Word := s.hcrc.zeroExtend 32

/-- The byte `PBUF[i]` that holds a value of the spec: `i` lies below `PLEN` (R27). -/
def pbufSpecified (s : State) (i : Byte) : Bool := i.toNat < s.plen.toNat

/-! ### Fields of a written value -/

/-- The fields of a `CFG` write (R291): `CFG <- v[1:0]`. -/
def cfgOf (v : Word) : Cfg := ⟨v.getLsbD 0, v.getLsbD 1⟩

/-- The fields of a `DESC` write (R46, R291). -/
def descOf (v : Word) : Desc := ⟨v.extractLsb' 0 8, v.extractLsb' 8 8, v.extractLsb' 16 8⟩

/-- `v[7:0]`. -/
def byteOf (v : Word) : Byte := v.extractLsb' 0 8

/-- `v[15:0]`. -/
def halfOf (v : Word) : Half := v.extractLsb' 0 16

/-- `v[2:0]`. -/
def kindOf (v : Word) : BitVec 3 := v.extractLsb' 0 3

/-- `v[4:0]`. -/
def fselOf (v : Word) : BitVec 5 := v.extractLsb' 0 5

/-! ### Operands of the decoder's rows -/

/-- What a layout row returns: the three words of field `j` of a table over the present payload (R277, log entries 13
and 14). -/
def fieldResult (table : List Entry) (j : Nat) (s : State) : OpResult :=
  let v := viewField (pbufByte s) s.plen table j
  .field v.fmeta v.lo v.hi

/-- The table with one entry (95_test_vectors.md V77 to V79; log entry 13). -/
def oneEntry (offset width : Byte) (isString : Bool) : List Entry := [⟨.given "field", offset, width, isString⟩]

end Sys2Proof.Machine
end

