-- ==== Sys2Proof/Machine/DecoderRows.lean ====
section
/-! DEFINITION. The layout rows (44_payload_decoder.md R264 to R270, R277) and the state-code rows (R274, R275). They
are pure (R276, R279): the result goes to the MODEL's field `opr` (log entries 7, 13, 14, 15). -/

namespace Sys2Proof.Machine

/-- `L0_BASE_STATUS` (R266): entry 0 of `LAYOUT[0]`. -/
def execL0BaseStatus (s : State) : Host.Outcome State Fault Refusal :=
  .next (opReturns (fieldResult layoutBaseStatus 0 s) s)

/-- `L3_STATE` (R269): entry 0 of `LAYOUT[3]`. -/
def execL3State (s : State) : Host.Outcome State Fault Refusal :=
  .next (opReturns (fieldResult layoutBatteryDynamic 0 s) s)

/-- `L3_PRESENT_RATE` (R269): entry 1 of `LAYOUT[3]`. -/
def execL3PresentRate (s : State) : Host.Outcome State Fault Refusal :=
  .next (opReturns (fieldResult layoutBatteryDynamic 1 s) s)

/-- `L3_REMAINING_CAPACITY` (R269): entry 2 of `LAYOUT[3]`. -/
def execL3RemainingCapacity (s : State) : Host.Outcome State Fault Refusal :=
  .next (opReturns (fieldResult layoutBatteryDynamic 2 s) s)

/-- `L3_PRESENT_VOLTAGE` (R269): entry 3 of `LAYOUT[3]`. -/
def execL3PresentVoltage (s : State) : Host.Outcome State Fault Refusal :=
  .next (opReturns (fieldResult layoutBatteryDynamic 3 s) s)

/-- `FIELD_UINT` (R264): the field of a table with this one entry; an entry that breaks R261 is refused (U6). -/
def execFieldUint (offset width : Byte) (s : State) : Host.Outcome State Fault Refusal :=
  if entryFits offset width false then .next (opReturns (fieldResult (oneEntry offset width false) 0 s) s)
  else .refused .malformedLayoutEntry

/-- `FIELD_STRING` (R265): the field of a table with this one entry; an entry that breaks R261 is refused (U6). -/
def execFieldString (offset width : Byte) (s : State) : Host.Outcome State Fault Refusal :=
  if entryFits offset width true then .next (opReturns (fieldResult (oneEntry offset width true) 0 s) s)
  else .refused .malformedLayoutEntry

/-- `L1_POWER_SOURCE` (R267): the one entry of `LAYOUT[1]`. -/
def execL1PowerSource (s : State) : Host.Outcome State Fault Refusal :=
  .next (opReturns (fieldResult layoutPowerSource 0 s) s)

/-- `L2_BATTERY_STATUS` (R268): the one entry of `LAYOUT[2]`. -/
def execL2BatteryStatus (s : State) : Host.Outcome State Fault Refusal :=
  .next (opReturns (fieldResult layoutBatteryStatus 0 s) s)

/-- `L4_BATTERY_STATIC` (R270): entry `j` of `LAYOUT[4]`. -/
def execL4BatteryStatic (j : Fin 20) (s : State) : Host.Outcome State Fault Refusal :=
  .next (opReturns (fieldResult layoutBatteryStatic j.val s) s)

/-- `STATE_NONE` (R274): the label of state code 0. -/
def execStateNone (s : State) : Host.Outcome State Fault Refusal := .next (opReturns (.label (labelWord 0#32)) s)

/-- `STATE_DISCHARGING` (R274): the label of state code 1. -/
def execStateDischarging (s : State) : Host.Outcome State Fault Refusal := .next (opReturns (.label (labelWord 1#32)) s)

/-- `STATE_CHARGING` (R274): the label of state code 2. -/
def execStateCharging (s : State) : Host.Outcome State Fault Refusal := .next (opReturns (.label (labelWord 2#32)) s)

/-- `STATE_CRITICAL` (R274): the label of state code 4. -/
def execStateCritical (s : State) : Host.Outcome State Fault Refusal := .next (opReturns (.label (labelWord 4#32)) s)

/-- `STATE_CRITICAL_DISCHARGING` (R274): the label of state code 5. -/
def execStateCriticalDischarging (s : State) : Host.Outcome State Fault Refusal := .next (opReturns (.label (labelWord 5#32)) s)

/-- `STATE_CRITICAL_CHARGING` (R274): the label of state code 6. -/
def execStateCriticalCharging (s : State) : Host.Outcome State Fault Refusal := .next (opReturns (.label (labelWord 6#32)) s)

/-- `STATE_UNKNOWN` (R275): the label word of any other value. -/
def execStateUnknown (v : Word) (s : State) : Host.Outcome State Fault Refusal :=
  .next (opReturns (.label (labelWord v)) s)

end Sys2Proof.Machine
end

