-- ==== Sys2Proof/Machine/EngineSteps.lean ====
section
/-! DEFINITION. The engine's steps (43_session_fsm.md R212 to R223) and the timeout step (60_exceptions.md R332). A step
whose guard does not hold is not enabled: nothing changes (R227, R229, log entry 3). -/

namespace Sys2Proof.Machine

/-- The guard of the drain pop, but for `RXQ` (R212). -/
def draining (s : State) : Bool := s.st == .drainPre || s.st == .drainPost

/-- A pop of the engine: take the head of `RXQ`, store it at `FB[BC]` (R32), then `f` (log entry 20). With `RXQ` empty the
engine waits (R227). -/
def enginePop (f : Byte → State → State) (s : State) : Host.Outcome State Fault Refusal :=
  match s.rxq with
  | [] => .next s
  | b :: q =>
    match storePopped b q s with
    | some t => .next (f b t)
    | none => .fault .fbOutOfRange

/-- A step of the engine under its guard. -/
def whenEnabled (guard : Bool) (step : Host.Outcome State Fault Refusal) (s : State) : Host.Outcome State Fault Refusal :=
  if guard then step else .next s

/-- Count the byte just stored (R29). -/
def countPop (s : State) : State := { s with bc := s.bc + 1#9 }

/-- `STEP_DRAIN_POP` (R212). -/
def execStepDrainPop (s : State) : Host.Outcome State Fault Refusal :=
  whenEnabled (draining s) (enginePop drainAfterStore s) s

/-- `STEP_DRAIN_PRE_DONE` (R213). -/
def execStepDrainPreDone (s : State) : Host.Outcome State Fault Refusal :=
  whenEnabled (s.st == .drainPre && s.bc == 0#9 && s.rxq.isEmpty) (.next { s with st := .requestSent }) s

/-- `STEP_SEND_REQUEST` (R214). -/
def execStepSendRequest (s : State) : Host.Outcome State Fault Refusal :=
  whenEnabled (s.st == .requestSent) (.next (sendRequest s)) s

/-- `STEP_ACK_POP` (R215): the first nine bytes. -/
def execStepAckPop (s : State) : Host.Outcome State Fault Refusal :=
  whenEnabled (s.st == .awaitAck && s.bc.toNat < 9) (enginePop (fun _ t => countPop t) s) s

/-- `STEP_ACK_OUTCOME` (R215, R217): the tenth byte and what follows from it. -/
def execStepAckOutcome (s : State) : Host.Outcome State Fault Refusal :=
  whenEnabled (s.st == .awaitAck && s.bc == 9#9) (enginePop (fun _ t => ackOutcome (countPop t)) s) s

/-- `STEP_RETRANSMIT` (R218). -/
def execStepRetransmit (s : State) : Host.Outcome State Fault Refusal :=
  whenEnabled (s.st == .retrying) (.next { sendRequest s with retry := true, retried := true }) s

/-- The pop in `AWAIT_RSP` is the one that completes the frame (R220, R221). -/
def lastOfResponse (s : State) : Bool := 8 ≤ s.bc.toNat && s.bc.toNat + 1 == s.tl.toNat

/-- The guard of the pop in `AWAIT_RSP`, but for `RXQ` (R220). -/
def accumulatingResponse (s : State) : Bool :=
  s.st == .awaitRsp && (s.bc.toNat < 8 || (s.tl != 0#9 && s.bc.toNat < s.tl.toNat))

/-- `STEP_RSP_POP` (R220): every byte but the last; the header is checked at the eighth. -/
def execStepRspPop (s : State) : Host.Outcome State Fault Refusal :=
  whenEnabled (accumulatingResponse s && !lastOfResponse s)
    (enginePop (fun _ t => if t.bc = 7#9 then rspHeaderCheck (countPop t) else countPop t) s) s

/-- `STEP_RSP_BODY` (R220, R221): the last byte, the body check and the capture. -/
def execStepRspBody (s : State) : Host.Outcome State Fault Refusal :=
  whenEnabled (accumulatingResponse s && lastOfResponse s) (enginePop (fun _ t => rspBody (countPop t)) s) s

/-- `STEP_SEND_ACK` (R222). -/
def execStepSendAck (s : State) : Host.Outcome State Fault Refusal :=
  whenEnabled (s.st == .rspAcked)
    (.next { pushFrame (encodeAck s.rseq) s with st := .drainPost, bc := 0#9, tl := 0#9 }) s

/-- `STEP_DRAIN_POST_DONE` (R223): the counters advance in the step that enters `DONE`. -/
def execStepDrainPostDone (s : State) : Host.Outcome State Fault Refusal :=
  whenEnabled (s.st == .drainPost && s.bc == 0#9 && s.rxq.isEmpty) (.next { advanceCounters s with st := .done }) s

/-- `STEP_TIMEOUT` (R332). -/
def execStepTimeout (s : State) : Host.Outcome State Fault Refusal :=
  whenEnabled (s.cfg.tmoEn && engineWaiting s) (.next (raiseFault .timeout s)) s

end Sys2Proof.Machine
end

