-- ==== Sys2Proof/Machine/EnvSteps.lean ====
section
/-! DEFINITION. The environment's steps: a byte arrives (20_memory.md R88), a byte leaves (R89), reset (R350). -/

namespace Sys2Proof.Machine

/-- `RX_ARRIVE` (R88). -/
def execRxArrive (b : Byte) (s : State) : Host.Outcome State Fault Refusal := .next (rxArrive b s)

/-- `TX_CONSUME` (R89). -/
def execTxConsume (s : State) : Host.Outcome State Fault Refusal := .next (txConsume s)

/-- `RESET` (R350). -/
def execReset (s : State) : Host.Outcome State Fault Refusal := .next (resetKeeping s)

end Sys2Proof.Machine
end

