-- ==== Sys2Proof/Machine/Frames.lean ====
section
/-! DEFINITION. The frame rows (30_encoding.md R100 to R107): the frame's bytes arrive at the receive side in ascending
offset (20_memory.md R75, R88). What the engine then does with them is the engine's steps. Log entry 5. -/

namespace Sys2Proof.Machine

/-- `FRAME_HEAD` (R101). -/
def execFrameHead (t l r q c0 c1 : Byte) (s : State) : Host.Outcome State Fault Refusal :=
  .next (rxArriveAll [0xAA#8, 0x55#8, t, l, r, q, c0, c1] s)

/-- `REQ` (R102). -/
def execReq (q h0 h1 tc iid c0 c1 cid k0 k1 : Byte) (s : State) : Host.Outcome State Fault Refusal :=
  .next (rxArriveAll
    [0xAA#8, 0x55#8, 0x80#8, 0x08#8, 0x00#8, q, h0, h1, 0x80#8, tc, 0x01#8, 0x00#8, iid, c0, c1, cid, k0, k1] s)

/-- `RSP` (R103). -/
def execRsp (n r q h0 h1 tc : Byte) (rest : List Byte) (s : State) : Host.Outcome State Fault Refusal :=
  .next (rxArriveAll ([0xAA#8, 0x55#8, 0x80#8, n, r, q, h0, h1, 0x80#8, tc, 0x00#8, 0x01#8] ++ rest) s)

/-- `ACK` (R104). -/
def execAck (q c0 c1 : Byte) (s : State) : Host.Outcome State Fault Refusal :=
  .next (rxArriveAll [0xAA#8, 0x55#8, 0x40#8, 0x00#8, 0x00#8, q, c0, c1, 0xFF#8, 0xFF#8] s)

/-- `NAK` (R105). -/
def execNak (q c0 c1 : Byte) (s : State) : Host.Outcome State Fault Refusal :=
  .next (rxArriveAll [0xAA#8, 0x55#8, 0x04#8, 0x00#8, 0x00#8, q, c0, c1, 0xFF#8, 0xFF#8] s)

/-- `ACK_OTHER` (R163, R363). -/
def execAckOther (t q c0 c1 : Byte) (s : State) : Host.Outcome State Fault Refusal :=
  .next (rxArriveAll [0xAA#8, 0x55#8, t, 0x00#8, 0x00#8, q, c0, c1, 0xFF#8, 0xFF#8] s)

/-- `CTL` (R106). -/
def execCtl (rest : List Byte) (s : State) : Host.Outcome State Fault Refusal :=
  .next (rxArriveAll ([0x4E#8, 0x00#8, 0x53#8] ++ rest) s)

end Sys2Proof.Machine
end

