-- ==== Sys2Proof/Machine/HostReads.lean ====
section
/-! DEFINITION. Host reads (45_host_commands.md R290): a read is legal in every state, never faults and changes no state
of SFPE; the value it returns goes to the MODEL's field `rdata` (log entry 6). -/

namespace Sys2Proof.Machine

/-- `RD_CTRL` (R42): write-only, reads 0. -/
def execRdCtrl (s : State) : Host.Outcome State Fault Refusal := .next (hostReturns 0#32 s)

/-- `RD_CFG` (R43). -/
def execRdCfg (s : State) : Host.Outcome State Fault Refusal := .next (hostReturns (cfgWord s) s)

/-- `RD_STATUS` (R44). -/
def execRdStatus (s : State) : Host.Outcome State Fault Refusal := .next (hostReturns (statusWord s) s)

/-- `RD_ERR` (R45). -/
def execRdErr (s : State) : Host.Outcome State Fault Refusal := .next (hostReturns (errWord s.err) s)

/-- `RD_SEQ` (R202). -/
def execRdSeq (s : State) : Host.Outcome State Fault Refusal := .next (hostReturns (seqWord s) s)

/-- `RD_CNT` (R202). -/
def execRdCnt (s : State) : Host.Outcome State Fault Refusal := .next (hostReturns (cntWord s) s)

/-- `RD_DESC` (R46). -/
def execRdDesc (s : State) : Host.Outcome State Fault Refusal := .next (hostReturns (descWord s) s)

/-- `RD_KIND` (R24). -/
def execRdKind (s : State) : Host.Outcome State Fault Refusal := .next (hostReturns (kindWord s) s)

/-- `RD_RSEQ` (R25). -/
def execRdRseq (s : State) : Host.Outcome State Fault Refusal := .next (hostReturns (rseqWord s) s)

/-- `RD_PLEN` (R26). -/
def execRdPlen (s : State) : Host.Outcome State Fault Refusal := .next (hostReturns (plenWord s) s)

/-- `RD_FSEL` (R47). -/
def execRdFsel (s : State) : Host.Outcome State Fault Refusal := .next (hostReturns (fselWord s) s)

/-- `RD_FMETA` (R48, R277). -/
def execRdFmeta (s : State) : Host.Outcome State Fault Refusal := .next (hostReturns (selectedField s).fmeta s)

/-- `RD_FVAL_LO` (R48, R264, R277). -/
def execRdFvalLo (s : State) : Host.Outcome State Fault Refusal := .next (hostReturns (selectedField s).lo s)

/-- `RD_FVAL_HI` (R48, R277). -/
def execRdFvalHi (s : State) : Host.Outcome State Fault Refusal := .next (hostReturns (selectedField s).hi s)

/-- `RD_DSTAT` (R49, R277). -/
def execRdDstat (s : State) : Host.Outcome State Fault Refusal := .next (hostReturns (dstat s) s)

/-- `RD_SUM_REM` (R50). -/
def execRdSumRem (s : State) : Host.Outcome State Fault Refusal := .next (hostReturns s.sumRem s)

/-- `RD_SUM_FULL` (R50). -/
def execRdSumFull (s : State) : Host.Outcome State Fault Refusal := .next (hostReturns s.sumFull s)

/-- `RD_SUM_STATE` (R50). -/
def execRdSumState (s : State) : Host.Outcome State Fault Refusal := .next (hostReturns s.sumState s)

/-- `RD_SUM_PCT_LO` (R50, R273). -/
def execRdSumPctLo (s : State) : Host.Outcome State Fault Refusal := .next (hostReturns (sumPctLoWord s) s)

/-- `RD_SUM_PCT_HI` (R50, R273). -/
def execRdSumPctHi (s : State) : Host.Outcome State Fault Refusal := .next (hostReturns (sumPctHiWord s) s)

/-- `RD_SUM_LABEL` (R50, R274, R275). -/
def execRdSumLabel (s : State) : Host.Outcome State Fault Refusal := .next (hostReturns (labelWord s.sumState) s)

/-- `RD_HCRC_DIN` (R51): write-only, reads 0. -/
def execRdHcrcDin (s : State) : Host.Outcome State Fault Refusal := .next (hostReturns 0#32 s)

/-- `RD_HCRC_VAL` (R296). -/
def execRdHcrcVal (s : State) : Host.Outcome State Fault Refusal := .next (hostReturns (hcrcWord s) s)

/-- `RD_PBUF` (R27, R290): the byte below `PLEN`; an unspecified byte is a free value, a fresh one for each read (U3, log
entry 10). Numbers past `PBUF[246]` are reserved and read 0 (R41). -/
def execRdPbuf (i : Byte) (s : State) : Host.Outcome State Fault Refusal :=
  if Config.pbufSize ≤ i.toNat then .next (hostReturns 0#32 s)
  else if pbufSpecified s i then .next (hostReturns ((pbufByte s i.toNat).zeroExtend 32) s)
  else .next { hostReturns ((Config.freeByte s.draws).zeroExtend 32) s with draws := s.draws + 1 }

/-- `RD_OTHER` (R41, R290): a reserved number reads 0. -/
def execRdOther (_n : RegNum) (s : State) : Host.Outcome State Fault Refusal := .next (hostReturns 0#32 s)

end Sys2Proof.Machine
end

