-- ==== Sys2Proof/Machine/HostWrites.lean ====
section
/-! DEFINITION. Host writes and commands (45_host_commands.md R291 to R297, R301). A write never faults. -/

namespace Sys2Proof.Machine

/-- `START` (R292), with the other command bits of the same write in the order of R301. -/
def execStart (clr init : Bool) (_rsv : BitVec 29) (s : State) : Host.Outcome State Fault Refusal :=
  .next (commandStart (commandIf init commandHcrcInit (commandIf clr commandClr s)))

/-- `CLR` (R293), with `HCRC_INIT` after it if its bit is set (R301). -/
def execClr (init : Bool) (_rsv : BitVec 29) (s : State) : Host.Outcome State Fault Refusal :=
  .next (commandIf init commandHcrcInit (commandClr s))

/-- `HCRC_INIT` (R294). -/
def execHcrcInit (_rsv : BitVec 29) (s : State) : Host.Outcome State Fault Refusal := .next (commandHcrcInit s)

/-- `HCRC_DIN` (R51, R295). -/
def execHcrcDin (v : Word) (s : State) : Host.Outcome State Fault Refusal :=
  .next { s with hcrc := crcUpdate s.hcrc (byteOf v) }

/-- `WR_CFG` (R43, R291). -/
def execWrCfg (v : Word) (s : State) : Host.Outcome State Fault Refusal := .next { s with cfg := cfgOf v }

/-- `WR_SEQ` (R84, R200). -/
def execWrSeq (v : Word) (s : State) : Host.Outcome State Fault Refusal :=
  .next (writeUnlessBusy (fun t => { t with seq := byteOf v }) s)

/-- `WR_CNT` (R84, R200). -/
def execWrCnt (v : Word) (s : State) : Host.Outcome State Fault Refusal :=
  .next (writeUnlessBusy (fun t => { t with cnt := halfOf v }) s)

/-- `WR_DESC` (R46, R84). -/
def execWrDesc (v : Word) (s : State) : Host.Outcome State Fault Refusal :=
  .next (writeUnlessBusy (fun t => { t with desc := descOf v }) s)

/-- `WR_KIND` (R24). -/
def execWrKind (v : Word) (s : State) : Host.Outcome State Fault Refusal := .next { s with kind := kindOf v }

/-- `WR_FSEL` (R47). -/
def execWrFsel (v : Word) (s : State) : Host.Outcome State Fault Refusal := .next { s with fsel := fselOf v }

/-- `WR_SUM_REM` (R297). -/
def execWrSumRem (v : Word) (s : State) : Host.Outcome State Fault Refusal := .next { s with sumRem := v }

/-- `WR_SUM_FULL` (R297). -/
def execWrSumFull (v : Word) (s : State) : Host.Outcome State Fault Refusal := .next { s with sumFull := v }

/-- `WR_SUM_STATE` (R297). -/
def execWrSumState (v : Word) (s : State) : Host.Outcome State Fault Refusal := .next { s with sumState := v }

/-- `WR_IGNORED` (R291): nothing. -/
def execWrIgnored (_n : RegNum) (_v : Word) (s : State) : Host.Outcome State Fault Refusal := .next s

end Sys2Proof.Machine
end

