-- ==== Sys2Proof/Machine/Operations.lean ====
section
/-! DEFINITION. The internal operations as instructions. A pure one returns its value in the MODEL's field `opr` and
changes nothing else (log entries 7, 16, 17); `advance`, `raise_fault` and `abort` write the registers of their rules. -/

namespace Sys2Proof.Machine

/-- `crc_bit` (R141). -/
def execCrcBit (c : Half) (d : Bool) (s : State) : Host.Outcome State Fault Refusal :=
  .next (opReturns (.crc (crcBit c d)) s)

/-- `crc_update` (R142). -/
def execCrcUpdate (c : Half) (b : Byte) (s : State) : Host.Outcome State Fault Refusal :=
  .next (opReturns (.crc (crcUpdate c b)) s)

/-- `crc16` (R143). -/
def execCrc16 (bytes : List Byte) (s : State) : Host.Outcome State Fault Refusal :=
  .next (opReturns (.crc (crc16 bytes)) s)

/-- `crc_split` (R144): low byte first. -/
def execCrcSplit (c : Half) (s : State) : Host.Outcome State Fault Refusal :=
  .next (opReturns (.crcBytes (loByte c) (hiByte c)) s)

/-- `encode_request` (R160). -/
def execEncodeRequest (tc iid cid seq : Byte) (cnt : Half) (s : State) : Host.Outcome State Fault Refusal :=
  .next (opReturns (.frame (encodeRequest tc iid cid seq cnt)) s)

/-- `encode_ack` (R161). -/
def execEncodeAck (seq : Byte) (s : State) : Host.Outcome State Fault Refusal :=
  .next (opReturns (.frame (encodeAck seq)) s)

/-- `parse_ack` (R162) on `FB[0..9]`. -/
def execParseAck (expSeq : Byte) (s : State) : Host.Outcome State Fault Refusal :=
  .next (opReturnsParsed (fun r => .ackParsed r.type r.seq) (parseAck (fbByte s) expSeq) s)

/-- `needs_retry` (R163). -/
def execNeedsRetry (type : Byte) (s : State) : Host.Outcome State Fault Refusal :=
  .next (opReturns (.flag (needsRetryOf type)) s)

/-- `parse_response_header` (R164) on `FB[0..7]`. -/
def execParseResponseHeader (s : State) : Host.Outcome State Fault Refusal :=
  .next (opReturnsParsed (fun n => .header n) (parseResponseHeader (fbByte s)) s)

/-- `parse_response_body` (R165) on `FB[0..9+N]`. -/
def execParseResponseBody (tc iid cid : Byte) (cnt : Half) (s : State) : Host.Outcome State Fault Refusal :=
  .next (opReturnsParsed (fun r => .body r.seq r.payload) (parseResponseBody (fbByte s) tc iid cid cnt) s)

/-- `classify_shape` (R167). -/
def execClassifyShape (b0 b1 b2 : Byte) (s : State) : Host.Outcome State Fault Refusal :=
  match classifyShape b0 b1 b2 with
  | some x => .next (opReturns (.shape x) s)
  | none => .next (opReturns (.returnedFault .protocolDesync) s)

/-- `drain_length` (R168). -/
def execDrainLength (x : Shape) (b3 : Byte) (s : State) : Host.Outcome State Fault Refusal :=
  .next (opReturns (.length (drainLength x b3)) s)

/-- `advance` (R201). -/
def execAdvance (s : State) : Host.Outcome State Fault Refusal := .next (advanceCounters s)

/-- `req_len` (R262). -/
def execReqLen (k : BitVec 3) (s : State) : Host.Outcome State Fault Refusal :=
  .next (opReturns (.length (BitVec.ofNat 9 (req k))) s)

/-- `pct` (R273) on `SUM_REM` and `SUM_FULL`. -/
def execPct (s : State) : Host.Outcome State Fault Refusal := .next (opReturns (.percent (sumPct s)) s)

/-- `raise_fault` (R324). -/
def execRaiseFault (k : FatalKind) (s : State) : Host.Outcome State Fault Refusal := .next (raiseFault k s)

/-- `abort` (R325). -/
def execAbort (s : State) : Host.Outcome State Fault Refusal := .next (abortEntry s)

end Sys2Proof.Machine
end

