-- ==== Sys2Proof/Machine/Dispatch.lean ====
section
/-! DEFINITION. One arm per row of spec/opcode_table.json: each is one direct call of the row's meaning. -/

namespace Sys2Proof.Machine

def exec (i : Instr) (s : State) : Host.Outcome State Fault Refusal :=
  match i with
  | .frameHead type length reserved seq crcLo crcHi => Sys2Proof.Machine.execFrameHead type length reserved seq crcLo crcHi s
  | .req seq hcrcLo hcrcHi tc iid cntLo cntHi cid pcrcLo pcrcHi => Sys2Proof.Machine.execReq seq hcrcLo hcrcHi tc iid cntLo cntHi cid pcrcLo pcrcHi s
  | .rsp n reserved seq hcrcLo hcrcHi tc rest => Sys2Proof.Machine.execRsp n reserved seq hcrcLo hcrcHi tc rest s
  | .ack seq crcLo crcHi => Sys2Proof.Machine.execAck seq crcLo crcHi s
  | .nak seq crcLo crcHi => Sys2Proof.Machine.execNak seq crcLo crcHi s
  | .ackOther type seq crcLo crcHi => Sys2Proof.Machine.execAckOther type seq crcLo crcHi s
  | .ctl rest => Sys2Proof.Machine.execCtl rest s
  | .start clr init rsv => Sys2Proof.Machine.execStart clr init rsv s
  | .clr init rsv => Sys2Proof.Machine.execClr init rsv s
  | .hcrcInit rsv => Sys2Proof.Machine.execHcrcInit rsv s
  | .hcrcDin v => Sys2Proof.Machine.execHcrcDin v s
  | .wrCfg v => Sys2Proof.Machine.execWrCfg v s
  | .wrSeq v => Sys2Proof.Machine.execWrSeq v s
  | .wrCnt v => Sys2Proof.Machine.execWrCnt v s
  | .wrDesc v => Sys2Proof.Machine.execWrDesc v s
  | .wrKind v => Sys2Proof.Machine.execWrKind v s
  | .wrFsel v => Sys2Proof.Machine.execWrFsel v s
  | .wrSumRem v => Sys2Proof.Machine.execWrSumRem v s
  | .wrSumFull v => Sys2Proof.Machine.execWrSumFull v s
  | .wrSumState v => Sys2Proof.Machine.execWrSumState v s
  | .wrIgnored n v => Sys2Proof.Machine.execWrIgnored n v s
  | .rdCtrl => Sys2Proof.Machine.execRdCtrl s
  | .rdCfg => Sys2Proof.Machine.execRdCfg s
  | .rdStatus => Sys2Proof.Machine.execRdStatus s
  | .rdErr => Sys2Proof.Machine.execRdErr s
  | .rdSeq => Sys2Proof.Machine.execRdSeq s
  | .rdCnt => Sys2Proof.Machine.execRdCnt s
  | .rdDesc => Sys2Proof.Machine.execRdDesc s
  | .rdKind => Sys2Proof.Machine.execRdKind s
  | .rdRseq => Sys2Proof.Machine.execRdRseq s
  | .rdPlen => Sys2Proof.Machine.execRdPlen s
  | .rdFsel => Sys2Proof.Machine.execRdFsel s
  | .rdFmeta => Sys2Proof.Machine.execRdFmeta s
  | .rdFvalLo => Sys2Proof.Machine.execRdFvalLo s
  | .rdFvalHi => Sys2Proof.Machine.execRdFvalHi s
  | .rdDstat => Sys2Proof.Machine.execRdDstat s
  | .rdSumRem => Sys2Proof.Machine.execRdSumRem s
  | .rdSumFull => Sys2Proof.Machine.execRdSumFull s
  | .rdSumState => Sys2Proof.Machine.execRdSumState s
  | .rdSumPctLo => Sys2Proof.Machine.execRdSumPctLo s
  | .rdSumPctHi => Sys2Proof.Machine.execRdSumPctHi s
  | .rdSumLabel => Sys2Proof.Machine.execRdSumLabel s
  | .rdHcrcDin => Sys2Proof.Machine.execRdHcrcDin s
  | .rdHcrcVal => Sys2Proof.Machine.execRdHcrcVal s
  | .rdPbuf x => Sys2Proof.Machine.execRdPbuf x s
  | .rdOther n => Sys2Proof.Machine.execRdOther n s
  | .l0BaseStatus => Sys2Proof.Machine.execL0BaseStatus s
  | .l3State => Sys2Proof.Machine.execL3State s
  | .l3PresentRate => Sys2Proof.Machine.execL3PresentRate s
  | .l3RemainingCapacity => Sys2Proof.Machine.execL3RemainingCapacity s
  | .l3PresentVoltage => Sys2Proof.Machine.execL3PresentVoltage s
  | .fieldUint offset width => Sys2Proof.Machine.execFieldUint offset width s
  | .fieldString offset width => Sys2Proof.Machine.execFieldString offset width s
  | .l1PowerSource => Sys2Proof.Machine.execL1PowerSource s
  | .l2BatteryStatus => Sys2Proof.Machine.execL2BatteryStatus s
  | .l4BatteryStatic j => Sys2Proof.Machine.execL4BatteryStatic j s
  | .stateNone => Sys2Proof.Machine.execStateNone s
  | .stateDischarging => Sys2Proof.Machine.execStateDischarging s
  | .stateCharging => Sys2Proof.Machine.execStateCharging s
  | .stateCritical => Sys2Proof.Machine.execStateCritical s
  | .stateCriticalDischarging => Sys2Proof.Machine.execStateCriticalDischarging s
  | .stateCriticalCharging => Sys2Proof.Machine.execStateCriticalCharging s
  | .stateUnknown v => Sys2Proof.Machine.execStateUnknown v s
  | .stepDrainPop => Sys2Proof.Machine.execStepDrainPop s
  | .stepDrainPreDone => Sys2Proof.Machine.execStepDrainPreDone s
  | .stepSendRequest => Sys2Proof.Machine.execStepSendRequest s
  | .stepAckPop => Sys2Proof.Machine.execStepAckPop s
  | .stepAckOutcome => Sys2Proof.Machine.execStepAckOutcome s
  | .stepRetransmit => Sys2Proof.Machine.execStepRetransmit s
  | .stepRspPop => Sys2Proof.Machine.execStepRspPop s
  | .stepRspBody => Sys2Proof.Machine.execStepRspBody s
  | .stepSendAck => Sys2Proof.Machine.execStepSendAck s
  | .stepDrainPostDone => Sys2Proof.Machine.execStepDrainPostDone s
  | .stepTimeout => Sys2Proof.Machine.execStepTimeout s
  | .rxArrive b => Sys2Proof.Machine.execRxArrive b s
  | .txConsume => Sys2Proof.Machine.execTxConsume s
  | .reset => Sys2Proof.Machine.execReset s
  | .crcBit c d => Sys2Proof.Machine.execCrcBit c d s
  | .crcUpdate c b => Sys2Proof.Machine.execCrcUpdate c b s
  | .crc16 bytes => Sys2Proof.Machine.execCrc16 bytes s
  | .crcSplit crc => Sys2Proof.Machine.execCrcSplit crc s
  | .encodeRequest tc iid cid seq cnt => Sys2Proof.Machine.execEncodeRequest tc iid cid seq cnt s
  | .encodeAck seq => Sys2Proof.Machine.execEncodeAck seq s
  | .parseAck expSeq => Sys2Proof.Machine.execParseAck expSeq s
  | .needsRetry type => Sys2Proof.Machine.execNeedsRetry type s
  | .parseResponseHeader => Sys2Proof.Machine.execParseResponseHeader s
  | .parseResponseBody tc iid cid cnt => Sys2Proof.Machine.execParseResponseBody tc iid cid cnt s
  | .classifyShape b0 b1 b2 => Sys2Proof.Machine.execClassifyShape b0 b1 b2 s
  | .drainLength shape b3 => Sys2Proof.Machine.execDrainLength shape b3 s
  | .advance => Sys2Proof.Machine.execAdvance s
  | .reqLen k => Sys2Proof.Machine.execReqLen k s
  | .pct => Sys2Proof.Machine.execPct s
  | .raiseFault k => Sys2Proof.Machine.execRaiseFault k s
  | .abort => Sys2Proof.Machine.execAbort s

end Sys2Proof.Machine
end

