-- ==== Sys2Proof/Machine/Scheduler.lean ====
section
/-! DEFINITION. Which engine step is enabled (43_session_fsm.md R229), and how the next move is taken from the list of
moves (log entries 1 and 2). -/

namespace Sys2Proof.Machine

/-- The enabled engine step of a state, by the table of R229; none where the engine waits or has ended. The timeout is not
in it: it may fire, it never must (R332). -/
def engineNext (s : State) : Option Instr :=
  match s.st with
  | .idle | .done | .aborted | .faulted => none
  | .drainPre =>
    if s.rxq.isEmpty then (if s.bc = 0#9 then some .stepDrainPreDone else none) else some .stepDrainPop
  | .requestSent => some .stepSendRequest
  | .awaitAck =>
    if s.rxq.isEmpty then none
    else if s.bc.toNat < 9 then some .stepAckPop
    else if s.bc = 9#9 then some .stepAckOutcome
    else none
  | .retrying => some .stepRetransmit
  | .awaitRsp =>
    if s.rxq.isEmpty || !accumulatingResponse s then none
    else if lastOfResponse s then some .stepRspBody
    else some .stepRspPop
  | .rspAcked => some .stepSendAck
  | .drainPost =>
    if s.rxq.isEmpty then (if s.bc = 0#9 then some .stepDrainPostDone else none) else some .stepDrainPop

/-- The next move of the machine: the first of the list of moves, and the state without it. -/
def nextMove (s : State) : Option (List Byte × State) :=
  match s.pending with
  | [] => none
  | m :: rest => some (m, { s with pending := rest })

/-- Put a move before all others. -/
def withMove (m : List Byte) (s : State) : State := { s with pending := m :: s.pending }

end Sys2Proof.Machine
end

