-- ==== Sys2Proof/Machine/Step.lean ====
section
/-! DEFINITION. One step of the machine: the next move of the list, or, with none left, the engine's enabled step
(00_scope.md R9; log entries 1 and 2). -/

namespace Sys2Proof.Machine

/-- One step. With no move left and no engine step enabled the machine stays as it is: the engine waits or has ended (R227,
R354), and nothing is a fault. -/
def step (s : State) : Host.Outcome State Fault Refusal :=
  match nextMove s with
  | some (m, t) =>
    match decode m with
    | .ok i => exec i t
    | .error e => .refused (.undecodable e)
  | none =>
    match engineNext s with
    | some i => exec i s
    | none => .next s

/-- `s` with the opcode table's word `w` of `nbits` bits as its next move (log entry 23). -/
def State.withFetchWord (s : State) (nbits w : Nat) : State := withMove ((tableMove nbits w).getD []) s

end Sys2Proof.Machine
end

