-- ==== Sys2Proof/Safety.lean ====
section
/-! DEFINITION. The terms the claims use: who makes a move, what a good state is, the edges of the state graph, and the
frames and byte ranges that the statements name. -/

namespace Sys2Proof.Machine

/-! ### Agents -/

/-- The agents of 00_scope.md R10 whose moves are steps (R9), with the reset input. -/
inductive Agent where
  | host | peer | transmitter | engine | timeout | resetInput
deriving DecidableEq, Repr

/-- The agent that makes a move of this row; none for a row that is a function of the codec, of the decoder or of the
summary, or an internal operation, which no agent performs as a step of its own (log entry 16). -/
def agentOf : Instr → Option Agent
  | .frameHead .. | .req .. | .rsp .. | .ack .. | .nak .. | .ackOther .. | .ctl .. => some .peer
  | .start .. | .clr .. | .hcrcInit .. | .hcrcDin .. | .wrCfg .. | .wrSeq .. | .wrCnt .. | .wrDesc .. | .wrKind ..
  | .wrFsel .. | .wrSumRem .. | .wrSumFull .. | .wrSumState .. | .wrIgnored .. => some .host
  | .rdCtrl | .rdCfg | .rdStatus | .rdErr | .rdSeq | .rdCnt | .rdDesc | .rdKind | .rdRseq | .rdPlen | .rdFsel | .rdFmeta
  | .rdFvalLo | .rdFvalHi | .rdDstat | .rdSumRem | .rdSumFull | .rdSumState | .rdSumPctLo | .rdSumPctHi | .rdSumLabel
  | .rdHcrcDin | .rdHcrcVal | .rdPbuf _ | .rdOther _ => some .host
  | .l0BaseStatus | .l3State | .l3PresentRate | .l3RemainingCapacity | .l3PresentVoltage | .fieldUint .. | .fieldString ..
  | .l1PowerSource | .l2BatteryStatus | .l4BatteryStatic _ => none
  | .stateNone | .stateDischarging | .stateCharging | .stateCritical | .stateCriticalDischarging | .stateCriticalCharging
  | .stateUnknown _ => none
  | .stepDrainPop | .stepDrainPreDone | .stepSendRequest | .stepAckPop | .stepAckOutcome | .stepRetransmit | .stepRspPop
  | .stepRspBody | .stepSendAck | .stepDrainPostDone => some .engine
  | .stepTimeout => some .timeout
  | .rxArrive _ => some .peer
  | .txConsume => some .transmitter
  | .reset => some .resetInput
  | .crcBit .. | .crcUpdate .. | .crc16 _ | .crcSplit _ | .encodeRequest .. | .encodeAck _ | .parseAck _ | .needsRetry _
  | .parseResponseHeader | .parseResponseBody .. | .classifyShape .. | .drainLength .. | .advance | .reqLen _ | .pct
  | .raiseFault _ | .abort => none

/-- A run of the hardware: every move still to come that decodes is a move of some agent (log entry 16). -/
def HardwareMoves (s : State) : Prop := ∀ m ∈ s.pending, ∀ i, decode m = .ok i → agentOf i ≠ none

/-! ### Good states -/

/-- While draining (R212): which `BC`, `TL` and first bytes of `FB` can be. -/
def DrainInv (s : State) : Prop :=
  (s.bc.toNat < 3 ∧ s.tl = 0#9) ∨
  (s.bc = 3#9 ∧ (s.tl = 10#9 ∨ s.tl = 25#9 ∨
    (s.tl = 0#9 ∧ classifyShape (fbByte s 0) (fbByte s 1) (fbByte s 2) = some .rsp))) ∨
  (4 ≤ s.bc.toNat ∧ s.bc.toNat < s.tl.toNat ∧ 10 ≤ s.tl.toNat ∧ s.tl.toNat ≤ 265)

/-- What holds of `BC` and `TL` in each state (R29, R30). -/
def CounterInv (s : State) : Prop :=
  match s.st with
  | .drainPre | .drainPost => DrainInv s
  | .awaitAck => s.bc.toNat < 10 ∧ s.tl = 10#9
  | .awaitRsp =>
    (s.bc.toNat < 8 ∧ s.tl = 0#9) ∨
    (8 ≤ s.bc.toNat ∧ s.bc.toNat < s.tl.toNat ∧ 10 ≤ s.tl.toNat ∧ s.tl.toNat ≤ 265)
  | .idle | .requestSent | .retrying | .rspAcked | .done | .aborted | .faulted => True

/-- A state in which a fault can be detected (R210, R310). -/
def popsBytes (x : St) : Prop := x = .drainPre ∨ x = .awaitAck ∨ x = .awaitRsp ∨ x = .drainPost

/-- What `ERR` holds in each state (R45, R224 to R226). -/
def ErrInv (s : State) : Prop :=
  match s.st with
  | .aborted => s.err = some ⟨.ackRetryExhausted, .awaitAck⟩ ∧ s.needsRetry = true ∧ s.retried = true
  | .faulted => ∃ k x, s.err = some ⟨.fatal k, x⟩ ∧ popsBytes x
  | .idle | .drainPre | .requestSent | .awaitAck | .retrying | .awaitRsp | .rspAcked | .drainPost | .done => s.err = none

/-- The retry bits (R31, R37, R38): during an exchange the sticky copy equals the counter; `RETRYING` is entered only with no
retransmission yet, and past the acknowledgement "needs retry" is clear. -/
def RetryInv (s : State) : Prop :=
  (s.st.busy = true → s.retried = s.retry) ∧
  (s.st = .retrying → s.retry = false ∧ s.needsRetry = true) ∧
  (s.st = .awaitRsp ∨ s.st = .rspAcked ∨ s.st = .drainPost ∨ s.st = .done → s.needsRetry = false)

/-- The two buffers (R26, R27, R32): canonical, inside their sizes, and `PBUF` holds exactly the bytes below `PLEN`. -/
def BufferInv (s : State) : Prop :=
  Memory.wf s.fb = true ∧ Memory.below s.fb Config.frameMax = true ∧
  Memory.wf s.pbuf = true ∧ Memory.below s.pbuf Config.pbufSize = true ∧
  s.plen.toNat ≤ Config.pbufSize ∧
  ∀ a, (Memory.read s.pbuf a).isSome = true ↔ a < s.plen.toNat

/-- The receive queue (R40, R55, R88): within its depth, and never overrun when unbounded. -/
def QueueInv (s : State) : Prop :=
  match s.rxDepth with
  | none => s.rxOvr = false
  | some d => s.rxq.length ≤ d

/-- The states that a run of the hardware reaches all meet this. -/
structure Inv (s : State) : Prop where
  moves : HardwareMoves s
  counters : CounterInv s
  errors : ErrInv s
  retries : RetryInv s
  buffers : BufferInv s
  queue : QueueInv s

/-! ### The state graph -/

/-- The edges that the engine and the timeout make (R210), a state that keeps itself included. -/
def engineEdge : St → St → Bool
  | .drainPre, .drainPre | .drainPre, .requestSent | .drainPre, .faulted => true
  | .requestSent, .awaitAck => true
  | .awaitAck, .awaitAck | .awaitAck, .awaitRsp | .awaitAck, .retrying | .awaitAck, .aborted | .awaitAck, .faulted => true
  | .retrying, .awaitAck => true
  | .awaitRsp, .awaitRsp | .awaitRsp, .rspAcked | .awaitRsp, .faulted => true
  | .rspAcked, .drainPost => true
  | .drainPost, .drainPost | .drainPost, .done | .drainPost, .faulted => true
  | _, _ => false

/-- The rows of the engine's own steps (R229), the timeout apart. -/
def isEngineStep (i : Instr) : Bool := agentOf i == some .engine

/-! ### Runs -/

/-- Run instructions one after another; the first that gives no next state ends the run. -/
def execAll : List Instr → State → Host.Outcome State Fault Refusal
  | [], s => .next s
  | i :: rest, s =>
    match exec i s with
    | .next t => execAll rest t
    | .fault r => .fault r
    | .refused r => .refused r

/-- That many steps of the machine. -/
def steps : Nat → State → Host.Outcome State Fault Refusal
  | 0, s => .next s
  | n + 1, s =>
    match step s with
    | .next t => steps n t
    | .fault r => .fault r
    | .refused r => .refused r

/-! ### Frames and byte ranges that statements name -/

/-- `FB` of `t` is `FB` of `s` with `b` at the offset that `BC` of `s` names, every other byte as it was (R32). -/
def storesAtCounter (b : Byte) (s t : State) : Prop :=
  Memory.read t.fb s.bc.toNat = some b ∧ ∀ a, a ≠ s.bc.toNat → Memory.read t.fb a = Memory.read s.fb a

/-- The bytes of `FB` once `b` stands at offset `BC`: what the checks of the same step read. -/
def frameWith (b : Byte) (s : State) (k : Nat) : Byte := if k = s.bc.toNat then b else fbByte s k

/-- The fields of an `FMETA` word (R48). -/
def fmetaHas (w : Word) (enc valid : Bool) (offset width : Byte) (tlen : Nat) : Prop :=
  w.getLsbD 0 = enc ∧ w.getLsbD 1 = valid ∧ w.extractLsb' 2 6 = 0#6 ∧ w.extractLsb' 8 8 = offset ∧
    w.extractLsb' 16 8 = width ∧ (w.extractLsb' 24 8).toNat = tlen

/-- The unsigned integer that `w` bytes of `PBUF` from offset `o` spell, the lowest offset least significant (R264). -/
def fieldSum (s : State) (o w : Nat) : Nat := (Finset.range w).sum fun i => (pbufByte s (o + i)).toNat * 256 ^ i

/-- `t` is the trimmed length of the string of width `w` at offset `o` of `PBUF` (R265). -/
def trimmedTo (s : State) (o w t : Nat) : Prop :=
  t ≤ w ∧ (t = 0 ∨ pbufByte s (o + t - 1) ≠ 0x00#8) ∧ ∀ u, t < u → u ≤ w → pbufByte s (o + u - 1) = 0x00#8

/-- The bytes that a frame row or `RX_ARRIVE` brings to the receive side, in wire order. -/
def arrivingBytes : Instr → Option (List Byte)
  | .frameHead t l r q c0 c1 => some [0xAA#8, 0x55#8, t, l, r, q, c0, c1]
  | .req q h0 h1 tc iid c0 c1 cid k0 k1 =>
    some [0xAA#8, 0x55#8, 0x80#8, 0x08#8, 0x00#8, q, h0, h1, 0x80#8, tc, 0x01#8, 0x00#8, iid, c0, c1, cid, k0, k1]
  | .rsp n r q h0 h1 tc rest =>
    some (0xAA#8 :: 0x55#8 :: 0x80#8 :: n :: r :: q :: h0 :: h1 :: 0x80#8 :: tc :: 0x00#8 :: 0x01#8 :: rest)
  | .ack q c0 c1 => some [0xAA#8, 0x55#8, 0x40#8, 0x00#8, 0x00#8, q, c0, c1, 0xFF#8, 0xFF#8]
  | .nak q c0 c1 => some [0xAA#8, 0x55#8, 0x04#8, 0x00#8, 0x00#8, q, c0, c1, 0xFF#8, 0xFF#8]
  | .ackOther t q c0 c1 => some [0xAA#8, 0x55#8, t, 0x00#8, 0x00#8, q, c0, c1, 0xFF#8, 0xFF#8]
  | .ctl rest => some (0x4E#8 :: 0x00#8 :: 0x53#8 :: rest)
  | .rxArrive b => some [b]
  | _ => none

/-- `FB` holds these bytes from offset 0 on. -/
def fbHolds (s : State) (bytes : List Byte) : Prop := ∀ k b, bytes[k]? = some b → Memory.read s.fb k = some b

/-- The header bytes of a frame with its CRC (R101): type, length, reserved, seq. -/
def headBytes (t l r q : Byte) : List Byte :=
  [0xAA#8, 0x55#8, t, l, r, q, loByte (crc16 [t, l, r, q]), hiByte (crc16 [t, l, r, q])]

/-- The acknowledgement shape with a right header CRC (R104, R105). -/
def ackShape (t q : Byte) : List Byte := headBytes t 0x00#8 0x00#8 q ++ [0xFF#8, 0xFF#8]

/-- A response frame with right CRCs whose payload is `payload` (R103). -/
def rspFrame (r q : Byte) (payload : List Byte) : List Byte :=
  headBytes 0x80#8 (BitVec.ofNat 8 payload.length) r q ++ payload
    ++ [loByte (crc16 payload), hiByte (crc16 payload)]

/-- The state after the host wrote registers that the engine does not read (R24, R51, R279). -/
def withHostOnly (k : BitVec 3) (f : BitVec 5) (r u x : Word) (h : Half) (s : State) : State :=
  { s with kind := k, fsel := f, sumRem := r, sumFull := u, sumState := x, hcrc := h }

/-- Apply a function to the next state of an outcome. -/
def mapNext (f : State → State) : Host.Outcome State Fault Refusal → Host.Outcome State Fault Refusal
  | .next s => .next (f s)
  | .fault r => .fault r
  | .refused r => .refused r

end Sys2Proof.Machine
end

