-- ==== Sys2Proof/Certificates/Slice0/Obligations.lean ====
section
/-! DEFINITION. The statements for the provers. Each says in its docstring which rule of spec/ it formalises, or that it is
derived and from what. The next state is written as the old one with the fields that the rule writes, so that every other
register, flag, queue and buffer is unchanged; where a byte is stored, the buffer is described byte by byte. -/

open Sys2Proof Sys2Proof.Machine

/-! ### Encoding -/

/-- Every well-formed instruction is what the decoder reads from its encoding (derived: 30_encoding.md R118; log entry 4). -/
def Obligations.EncodeThenDecode : Prop :=
  ∀ i : Instr, i.wf = true → decode (encode i) = .ok i

/-- A move decodes to an instruction only if it is that instruction's encoding: no two moves stand for one instruction
(derived: 30_encoding.md R118; log entry 4). -/
def Obligations.DecodeThenEncode : Prop :=
  ∀ (m : List Byte) (i : Instr), decode m = .ok i → encode i = m

/-- A few words of the spec decode to the rows they stand for: a request, an acknowledgement, a control frame, host accesses, a
layout word, a state code (derived: R102, R104, R106, R112, R113, R115). The format byte before each word and the byte order of
a host access and of a layout word are the model's choice (log entry 4), and so is that a `CTRL` write with two command bits
is the one row `START` that holds the `CLR` bit (log entry 18). -/
def Obligations.SpecWordsDecode : Prop :=
  decode [2#8, 0xAA#8, 0x55#8, 0x80#8, 0x08#8, 0x00#8, 0x00#8, 0x59#8, 0xF0#8, 0x80#8, 0x11#8, 0x01#8, 0x00#8, 0x00#8,
    0x00#8, 0x00#8, 0x0D#8, 0xA8#8, 0xD7#8]
    = .ok (.req 0x00#8 0x59#8 0xF0#8 0x11#8 0x00#8 0x00#8 0x00#8 0x0D#8 0xA8#8 0xD7#8) ∧
  decode [4#8, 0xAA#8, 0x55#8, 0x40#8, 0x00#8, 0x00#8, 0x17#8, 0x8A#8, 0x88#8, 0xFF#8, 0xFF#8]
    = .ok (.ack 0x17#8 0x8A#8 0x88#8) ∧
  decode ([5#8, 0x4E#8, 0x00#8, 0x53#8] ++ List.replicate 22 0xA5#8) = .ok (.ctl (List.replicate 22 0xA5#8)) ∧
  decode [6#8, 0x03#8, 0x00#8, 0x00#8, 0x00#8, 0x00#8, 0x00#8] = .ok (.start true false 0#29) ∧
  decode [6#8, 0x34#8, 0x12#8, 0x00#8, 0x00#8, 0x05#8, 0x00#8] = .ok (.wrCnt 0x00001234#32) ∧
  decode [7#8, 0x05#8, 0x01#8] = .ok (.rdPbuf 0x05#8) ∧
  decode [8#8, 0x0C#8, 0x04#8, 0x00#8] = .ok .l3PresentVoltage ∧
  decode [10#8, 0x05#8, 0x00#8, 0x00#8, 0x00#8] = .ok .stateCriticalDischarging

/-- A step runs the instruction that the next move decodes to, on the state without that move; with no move left it runs the
engine's enabled step, and with none enabled the machine stays as it is; a move that decodes to nothing is refused by name
(derived: 00_scope.md R9, R229, R227; the list of moves is the model's, log entries 1, 2 and 4). -/
def Obligations.StepRunsDecodedInstruction : Prop :=
  (∀ (s : State) (m : List Byte) (rest : List (List Byte)) (i : Instr), s.pending = m :: rest → decode m = .ok i →
    i.wf = true → step s = exec i { s with pending := rest }) ∧
  (∀ (s : State) (m : List Byte) (rest : List (List Byte)) (e : DecodeError), s.pending = m :: rest →
    decode m = .error e → step s = .refused (.undecodable e)) ∧
  (∀ (s : State) (i : Instr), s.pending = [] → engineNext s = some i → step s = exec i s) ∧
  (∀ s : State, s.pending = [] → engineNext s = none → step s = .next s)

/-! ### The CRC unit -/

/-- One input bit into the CRC register, and a byte fed from bit 7 down to bit 0 (R141). The value returned stands in
the MODEL's field `opr` (log entry 7). -/
def Obligations.CrcBitIsTheShiftRegister : Prop :=
  (∀ (c : Half) (d : Bool),
    (∀ i, 1 ≤ i → i ≤ 15 → i ≠ 5 → i ≠ 12 → (crcBit c d).getLsbD i = c.getLsbD (i - 1)) ∧
    (crcBit c d).getLsbD 0 = (d ^^ c.getLsbD 15) ∧
    (crcBit c d).getLsbD 5 = (c.getLsbD 4 ^^ (d ^^ c.getLsbD 15)) ∧
    (crcBit c d).getLsbD 12 = (c.getLsbD 11 ^^ (d ^^ c.getLsbD 15)) ∧
    crcBit c d = (if (d ^^ c.getLsbD 15) = true then (c <<< 1) ^^^ 0x1021#16 else c <<< 1)) ∧
  (∀ (c : Half) (b : Byte), crcUpdate c b =
    crcBit (crcBit (crcBit (crcBit (crcBit (crcBit (crcBit (crcBit c (b.getLsbD 7)) (b.getLsbD 6)) (b.getLsbD 5))
      (b.getLsbD 4)) (b.getLsbD 3)) (b.getLsbD 2)) (b.getLsbD 1)) (b.getLsbD 0)) ∧
  (∀ (c : Half) (d : Bool) (s : State), exec (.crcBit c d) s = .next { s with opr := .crc (crcBit c d) })

/-- The byte update: the table form, and that for a fixed byte no two registers give the same result (derived: the
pseudocode and the corner cases of R142). The value returned stands in the MODEL's field `opr` (log entry 7). -/
def Obligations.CrcUpdateTableForm : Prop :=
  (∀ (c : Half) (b : Byte), crcUpdate c b = (c <<< 8) ^^^ crcUpdate 0x0000#16 (hiByte c ^^^ b)) ∧
  (∀ (b : Byte) (c c' : Half), crcUpdate c b = crcUpdate c' b → c = c') ∧
  (∀ (c : Half) (b : Byte) (s : State), exec (.crcUpdate c b) s = .next { s with opr := .crc (crcUpdate c b) })

/-- The CRC of a byte sequence, its check value over the nine bytes of "123456789", the CRC of a request header, and its two
output bytes (derived: R140 for the check value, R143, R144). The parameters of the CRC are log entry 22. The value returned
stands in the MODEL's field `opr` (log entry 7). -/
def Obligations.Crc16OfBytes : Prop :=
  crc16 [] = 0xFFFF#16 ∧
  (∀ (bytes : List Byte) (b : Byte), crc16 (bytes ++ [b]) = crcUpdate (crc16 bytes) b) ∧
  crc16 [0x31#8, 0x32#8, 0x33#8, 0x34#8, 0x35#8, 0x36#8, 0x37#8, 0x38#8, 0x39#8] = 0x29B1#16 ∧
  crc16 [0x80#8, 0x08#8, 0x00#8, 0x00#8] = 0xF059#16 ∧
  (∀ (bytes : List Byte) (s : State), exec (.crc16 bytes) s = .next { s with opr := .crc (crc16 bytes) }) ∧
  (∀ (c : Half) (s : State), exec (.crcSplit c) s = .next { s with opr := .crcBytes (c.extractLsb' 0 8) (c.extractLsb' 8 8) })

/-- The host CRC port: after `HCRC_INIT`, writes of the bytes of a sequence leave its CRC in `HCRC`, from any state; one write
feeds bits 7:0 of the value and nothing else changes (R294, R295). -/
def Obligations.HostCrcPortComputesCrc16 : Prop :=
  (∀ (rsv : BitVec 29) (s : State), exec (.hcrcInit rsv) s = .next { s with hcrc := 0xFFFF#16 }) ∧
  (∀ (v : Word) (s : State), exec (.hcrcDin v) s = .next { s with hcrc := crcUpdate s.hcrc (v.extractLsb' 0 8) }) ∧
  (∀ (rsv : BitVec 29) (vs : List Word) (s : State),
    execAll (.hcrcInit rsv :: vs.map .hcrcDin) s
      = .next { s with hcrc := crc16 (vs.map fun v => v.extractLsb' 0 8) })

/-! ### Bytes in and out -/

/-- One byte arrives, and one byte leaves (derived: R88, R89). Where the byte goes that left is the MODEL's field `line` (log
entry 8); that the row run with `TXQ` empty, where it is not enabled, changes nothing is the model's choice (log entry 3). -/
def Obligations.QueueEnds : Prop :=
  (∀ (b : Byte) (s : State), (∀ d, s.rxDepth = some d → s.rxq.length < d) →
    exec (.rxArrive b) s = .next { s with rxq := s.rxq ++ [b] }) ∧
  (∀ (b : Byte) (s : State) (d : Nat), s.rxDepth = some d → d ≤ s.rxq.length →
    exec (.rxArrive b) s = .next { s with rxOvr := true }) ∧
  (∀ (b : Byte) (q : List Byte) (s : State), s.txq = b :: q →
    exec .txConsume s = .next { s with txq := q, line := s.line ++ [b] }) ∧
  (∀ s : State, s.txq = [] → exec .txConsume s = .next s)

/-- Each frame row brings its frame to `RXQ` in wire order and changes nothing else, in every state: all of it with the
baseline, unbounded queue; with a finite one the bytes that fit, an overrun being recorded exactly if one did not (derived:
R75, R88, R368; rows FRAME_HEAD, REQ, RSP, ACK, NAK, ACK_OTHER, CTL, RX_ARRIVE; the bundling of a frame's arrivals is log
entry 5, the depth as a field log entry 9). -/
def Obligations.FramesArriveInOrder : Prop :=
  ∀ (i : Instr) (bytes : List Byte) (s : State), arrivingBytes i = some bytes →
    (s.rxDepth = none → exec i s = .next { s with rxq := s.rxq ++ bytes }) ∧
    (∀ d, s.rxDepth = some d → exec i s = .next { s with
      rxq := (s.rxq ++ bytes).take (max d s.rxq.length)
      rxOvr := s.rxOvr || decide (max d s.rxq.length < s.rxq.length + bytes.length) })

/-! ### The frame codec -/

/-- The two frame builders, byte by byte (R160, R161). The value returned stands in the MODEL's field `opr` (log entry
7). -/
def Obligations.FrameBuilders : Prop :=
  (∀ (tc iid cid seq : Byte) (cnt : Half) (s : State),
    let ch := crc16 [0x80#8, 0x08#8, 0x00#8, seq]
    let cp := crc16 [0x80#8, tc, 0x01#8, 0x00#8, iid, cnt.extractLsb' 0 8, cnt.extractLsb' 8 8, cid]
    let frame :=
      [0xAA#8, 0x55#8, 0x80#8, 0x08#8, 0x00#8, seq, ch.extractLsb' 0 8, ch.extractLsb' 8 8, 0x80#8, tc, 0x01#8, 0x00#8,
       iid, cnt.extractLsb' 0 8, cnt.extractLsb' 8 8, cid, cp.extractLsb' 0 8, cp.extractLsb' 8 8]
    exec (.encodeRequest tc iid cid seq cnt) s = .next { s with opr := .frame frame }) ∧
  (∀ (seq : Byte) (s : State),
    let ch := crc16 [0x40#8, 0x00#8, 0x00#8, seq]
    let frame := [0xAA#8, 0x55#8, 0x40#8, 0x00#8, 0x00#8, seq, ch.extractLsb' 0 8, ch.extractLsb' 8 8, 0xFF#8, 0xFF#8]
    exec (.encodeAck seq) s = .next { s with opr := .frame frame })

/-- Every frame that SFPE builds passes the CRC comparisons of the parsers; a request fails the echo test (R149). The
value returned stands in the MODEL's field `opr` (log entry 7). -/
def Obligations.BuiltFramesValidate : Prop :=
  (∀ (seq : Byte) (s : State), fbHolds s (encodeAck seq) →
    exec (.parseAck seq) s = .next { s with opr := .ackParsed 0x40#8 seq }) ∧
  (∀ (tc iid cid seq : Byte) (cnt : Half) (s : State), fbHolds s (encodeRequest tc iid cid seq cnt) →
    exec .parseResponseHeader s = .next { s with opr := .header 8#8 } ∧
    crcMatches (fbByte s) 8 8 16 = true ∧
    (∀ (tc' iid' cid' : Byte) (cnt' : Half), exec (.parseResponseBody tc' iid' cid' cnt') s
      = .next { s with opr := .returnedFault .unexpectedResponseTarget }))

/-- The acknowledgement parser: its checks in their order, the first that fails decides the kind (R162). The value
returned stands in the MODEL's field `opr` (log entry 7). -/
def Obligations.ParseAckChecksInOrder : Prop :=
  ∀ (e : Byte) (s : State),
    let f := fbByte s
    let c := crc16 [f 2, f 3, f 4, f 5]
    let result : OpResult :=
      if f 0 ≠ 0xAA#8 ∨ f 1 ≠ 0x55#8 then .returnedFault .frameSync
      else if f 3 ≠ 0x00#8 ∨ f 4 ≠ 0x00#8 then .returnedFault .ackFormat
      else if f 6 ≠ c.extractLsb' 0 8 ∨ f 7 ≠ c.extractLsb' 8 8 then .returnedFault .checksumMismatch
      else if f 8 ≠ 0xFF#8 ∨ f 9 ≠ 0xFF#8 then .returnedFault .ackFormat
      else if f 2 = 0x40#8 ∧ f 5 ≠ e then .returnedFault .ackSeqMismatch
      else .ackParsed (f 2) (f 5)
    exec (.parseAck e) s = .next { s with opr := result }

/-- The frames that the acknowledgement parser accepts are exactly the acknowledgement shape with a right header CRC, any
type, and for a plain acknowledgement the expected `seq` (derived: R162, R363). -/
def Obligations.ParseAckAcceptsExactly : Prop :=
  ∀ (f : Nat → Byte) (e : Byte) (r : AckFields),
    parseAck f e = .ok r ↔
      (List.range 10).map f = ackShape r.type r.seq ∧ (r.type = 0x40#8 → r.seq = e)

/-- The response header parser (R164). The value returned stands in the MODEL's field `opr` (log entry 7). -/
def Obligations.ParseResponseHeaderChecks : Prop :=
  ∀ s : State,
    let f := fbByte s
    let c := crc16 [f 2, f 3, f 4, f 5]
    let result : OpResult :=
      if f 0 ≠ 0xAA#8 ∨ f 1 ≠ 0x55#8 ∨ f 2 ≠ 0x80#8 then .returnedFault .frameSync
      else if f 6 ≠ c.extractLsb' 0 8 ∨ f 7 ≠ c.extractLsb' 8 8 then .returnedFault .checksumMismatch
      else .header (f 3)
    exec .parseResponseHeader s = .next { s with opr := result }

/-- The response body parser (R165) and what its raw payload is (R166). The value returned stands in the MODEL's field
`opr` (log entry 7). -/
def Obligations.ParseResponseBodyChecks : Prop :=
  ∀ (tc iid cid : Byte) (cnt : Half) (s : State),
    let f := fbByte s
    let n := (f 3).toNat
    let c := crc16 ((List.range n).map fun k => f (8 + k))
    let result : OpResult :=
      if n < 8 then .returnedFault .unexpectedResponseTarget
      else if [f 8, f 9, f 10, f 11, f 12, f 13, f 14, f 15]
          ≠ [0x80#8, tc, 0x00#8, 0x01#8, iid, cnt.extractLsb' 0 8, cnt.extractLsb' 8 8, cid] then
        .returnedFault .unexpectedResponseTarget
      else if f (8 + n) ≠ c.extractLsb' 0 8 ∨ f (9 + n) ≠ c.extractLsb' 8 8 then .returnedFault .checksumMismatch
      else .body (f 5) ((List.range (n - 8)).map fun k => f (16 + k))
    exec (.parseResponseBody tc iid cid cnt) s = .next { s with opr := result }

/-- The frames that both response parsers accept are exactly the response frames with right CRCs whose payload is the echo
prefix of this request and then the raw payload (derived: R103, R164, R165, R166). -/
def Obligations.ResponsesAcceptedExactly : Prop :=
  ∀ (f : Nat → Byte) (tc iid cid : Byte) (cnt : Half) (q : Byte) (raw : List Byte),
    ((∃ n, parseResponseHeader f = .ok n) ∧ parseResponseBody f tc iid cid cnt = .ok ⟨q, raw⟩) ↔
      (raw.length ≤ 247 ∧
        (List.range (raw.length + 18)).map f = rspFrame (f 4) q (echoPrefix tc iid cid cnt ++ raw))

/-- "Needs retry" is exactly type `04` (R163), and the drain's shape classifier (R167). The value returned stands in the
MODEL's field `opr` (log entry 7). -/
def Obligations.RetryFlagAndShapes : Prop :=
  (∀ (t : Byte) (s : State), exec (.needsRetry t) s = .next { s with opr := .flag (decide (t = 0x04#8)) }) ∧
  (∀ (b0 b1 b2 : Byte) (s : State),
    let result : OpResult :=
      if b0 = 0xAA#8 ∧ b1 = 0x55#8 ∧ b2 = 0x40#8 then .shape .ack
      else if b0 = 0xAA#8 ∧ b1 = 0x55#8 ∧ b2 = 0x80#8 then .shape .rsp
      else if b0 = 0x4E#8 ∧ b1 = 0x00#8 ∧ b2 = 0x53#8 then .shape .ctl
      else .returnedFault .protocolDesync
    exec (.classifyShape b0 b1 b2) s = .next { s with opr := result })

/-- The drain lengths, and the spec's test property: a stale acknowledgement followed by a stale response of header length
`N`, any `N`, takes exactly `10 + (N + 10)` drain pops and leaves the queue empty at a frame boundary (derived: R168, R212).
The value returned stands in the MODEL's field `opr` (log entry 7). That the machine with no move left goes on by itself, step
by step, is the model's choice (log entry 2). -/
def Obligations.DrainDiscardsStaleFrames : Prop :=
  (∀ (b3 : Byte) (s : State),
    (∃ n, exec (.drainLength .ack b3) s = .next { s with opr := .length n } ∧ n.toNat = 10) ∧
    (∃ n, exec (.drainLength .ctl b3) s = .next { s with opr := .length n } ∧ n.toNat = 25) ∧
    (∃ n, exec (.drainLength .rsp b3) s = .next { s with opr := .length n } ∧ n.toNat = b3.toNat + 10)) ∧
  (∀ (a c : List Byte) (n : Byte) (s : State),
    s.st = .drainPre ∨ s.st = .drainPost → s.bc = 0#9 → s.tl = 0#9 → s.pending = [] → a.length = 7 →
    c.length = n.toNat + 6 →
    s.rxq = [0xAA#8, 0x55#8, 0x40#8] ++ a ++ [0xAA#8, 0x55#8, 0x80#8, n] ++ c →
    ∃ fb, (∀ k, n.toNat + 10 ≤ k → Memory.read fb k = Memory.read s.fb k) ∧
      steps (10 + (n.toNat + 10)) s = .next { s with rxq := [], fb := fb })

/-! ### Host writes and commands -/

/-- The plain stores: each writes the named bits of its register and nothing else; a write to any other register does
nothing (derived: R24, R43, R47, R50, R291, R297). -/
def Obligations.PlainHostWrites : Prop :=
  ∀ (v : Word) (s : State),
    exec (.wrCfg v) s = .next { s with cfg := ⟨v.getLsbD 0, v.getLsbD 1⟩ } ∧
    exec (.wrKind v) s = .next { s with kind := v.extractLsb' 0 3 } ∧
    exec (.wrFsel v) s = .next { s with fsel := v.extractLsb' 0 5 } ∧
    exec (.wrSumRem v) s = .next { s with sumRem := v } ∧
    exec (.wrSumFull v) s = .next { s with sumFull := v } ∧
    exec (.wrSumState v) s = .next { s with sumState := v } ∧
    ∀ n : RegNum, exec (.wrIgnored n v) s = .next s

/-- The write-protected registers: stored while `STATUS.BUSY` is 0, unchanged with no flag set while it is 1 (derived:
R84, R200, R291). -/
def Obligations.BusyProtectsCountersAndDescriptor : Prop :=
  ∀ (v : Word) (s : State),
    (s.st.busy = false →
      exec (.wrSeq v) s = .next { s with seq := v.extractLsb' 0 8 } ∧
      exec (.wrCnt v) s = .next { s with cnt := v.extractLsb' 0 16 } ∧
      exec (.wrDesc v) s
        = .next { s with desc := ⟨v.extractLsb' 0 8, v.extractLsb' 8 8, v.extractLsb' 16 8⟩ }) ∧
    (s.st.busy = true →
      exec (.wrSeq v) s = .next s ∧ exec (.wrCnt v) s = .next s ∧ exec (.wrDesc v) s = .next s) ∧
    (s.st.busy = true ↔ 1 ≤ s.st.code.toNat ∧ s.st.code.toNat ≤ 7)

/-- `START` alone (R292). -/
def Obligations.StartBeginsAnExchange : Prop :=
  ∀ (rsv : BitVec 29) (s : State),
    exec (.start false false rsv) s = .next
      (if s.st = .idle then
        { s with st := .drainPre, bc := 0#9, tl := 0#9, retry := false, retried := false, needsRetry := false,
                 err := none }
      else s)

/-- `CLR` alone (R293). -/
def Obligations.ClrLeavesATerminalState : Prop :=
  ∀ (rsv : BitVec 29) (s : State),
    exec (.clr false rsv) s = .next
      (if s.st = .done ∨ s.st = .aborted ∨ s.st = .faulted then
        { s with st := .idle, retried := false, needsRetry := false, rxOvr := false, err := none }
      else if s.st = .idle then { s with rxOvr := false }
      else s)

/-- Several command bits in one write take effect in the order `CLR`, `HCRC_INIT`, `START` (R301). That such a
write is one row that holds the other bits is log entry 18. -/
def Obligations.CommandBitsTakeEffectInOrder : Prop :=
  (∀ (clr init : Bool) (rsv : BitVec 29) (s : State),
    exec (.start clr init rsv) s = execAll
      ((if clr then [.clr false rsv] else []) ++ (if init then [.hcrcInit rsv] else []) ++ [.start false false rsv]) s) ∧
  (∀ (init : Bool) (rsv : BitVec 29) (s : State),
    exec (.clr init rsv) s = execAll ([.clr false rsv] ++ (if init then [.hcrcInit rsv] else [])) s) ∧
  (∀ (rsv : BitVec 29) (s : State),
    exec (.start true false rsv) s = .next
      (if s.st.busy then s
      else { s with st := .drainPre, bc := 0#9, tl := 0#9, retry := false, retried := false, needsRetry := false,
                    err := none, rxOvr := false }))

/-! ### Host reads -/

/-- A read of a stored register returns it zero-extended; `CTRL`, `HCRC_DIN` and every number outside the map read 0
(derived: R290 for these registers; R42, R43, R46, R51, R202, R296). The returned word stands in the MODEL's field `rdata`
(log entry 6). -/
def Obligations.StoredRegisterReads : Prop :=
  ∀ s : State,
    exec .rdCtrl s = .next { s with rdata := 0#32 } ∧
    (∃ w, exec .rdCfg s = .next { s with rdata := w } ∧ w.getLsbD 0 = s.cfg.ie ∧ w.getLsbD 1 = s.cfg.tmoEn ∧
      w.extractLsb' 2 30 = 0#30) ∧
    exec .rdSeq s = .next { s with rdata := s.seq.zeroExtend 32 } ∧
    exec .rdCnt s = .next { s with rdata := s.cnt.zeroExtend 32 } ∧
    (∃ w, exec .rdDesc s = .next { s with rdata := w } ∧ w.extractLsb' 0 8 = s.desc.tc ∧ w.extractLsb' 8 8 = s.desc.iid ∧
      w.extractLsb' 16 8 = s.desc.cid ∧ w.extractLsb' 24 8 = 0#8) ∧
    exec .rdKind s = .next { s with rdata := s.kind.zeroExtend 32 } ∧
    exec .rdRseq s = .next { s with rdata := s.rseq.zeroExtend 32 } ∧
    exec .rdPlen s = .next { s with rdata := s.plen.zeroExtend 32 } ∧
    exec .rdFsel s = .next { s with rdata := s.fsel.zeroExtend 32 } ∧
    exec .rdSumRem s = .next { s with rdata := s.sumRem } ∧
    exec .rdSumFull s = .next { s with rdata := s.sumFull } ∧
    exec .rdSumState s = .next { s with rdata := s.sumState } ∧
    exec .rdHcrcDin s = .next { s with rdata := 0#32 } ∧
    exec .rdHcrcVal s = .next { s with rdata := s.hcrc.zeroExtend 32 } ∧
    ∀ n : RegNum, exec (.rdOther n) s = .next { s with rdata := 0#32 }

/-- A read of `STATUS`: every bit of the word, and which outcome bits can stand together (R44). The word read stands in
the MODEL's field `rdata` (log entry 6). -/
def Obligations.StatusReadsEveryBit : Prop :=
  exec .rdStatus State.reset = .next { State.reset with rdata := 0#32 } ∧
  ∀ s : State, ∃ w, exec .rdStatus s = .next { s with rdata := w } ∧
    (w.getLsbD 0 = true ↔ 1 ≤ s.st.code.toNat ∧ s.st.code.toNat ≤ 7) ∧
    (w.getLsbD 1 = true ↔ s.st = .done) ∧ (w.getLsbD 2 = true ↔ s.st = .aborted) ∧
    (w.getLsbD 3 = true ↔ s.st = .faulted) ∧
    w.getLsbD 4 = s.retried ∧ w.getLsbD 5 = s.needsRetry ∧ (w.getLsbD 6 = true ↔ s.rxq ≠ []) ∧ w.getLsbD 7 = s.rxOvr ∧
    w.extractLsb' 8 4 = s.st.code ∧ w.extractLsb' 12 20 = 0#20 ∧
    (w.extractLsb' 0 4 = 0#4 ∨ w.extractLsb' 0 4 = 1#4 ∨ w.extractLsb' 0 4 = 2#4 ∨ w.extractLsb' 0 4 = 4#4 ∨
      w.extractLsb' 0 4 = 8#4) ∧
    (w.extractLsb' 0 4 = 0#4 ↔ s.st = .idle)

/-- A read of `ERR`: the kind's code, the stage, 0 when nothing is recorded; and the codes of the kinds (derived: R28,
R45, R310, R317; the record form is log entry 19). The word read stands in the MODEL's field `rdata` (log entry 6). -/
def Obligations.ErrReadsKindAndStage : Prop :=
  (∀ s : State, s.err = none → exec .rdErr s = .next { s with rdata := 0#32 }) ∧
  (∀ (s : State) (r : ErrRecord), s.err = some r → ∃ w, exec .rdErr s = .next { s with rdata := w } ∧
    w.extractLsb' 0 4 = r.kind.code ∧ w.extractLsb' 4 4 = r.stage.code ∧ w.extractLsb' 8 24 = 0#24 ∧ w ≠ 0#32) ∧
  [ErrKind.fatal .frameSync, .fatal .checksumMismatch, .fatal .unexpectedResponseTarget, .fatal .protocolDesync,
    .ackRetryExhausted, .fatal .timeout, .fatal .ackFormat, .fatal .ackSeqMismatch].map ErrKind.code
    = [1#4, 2#4, 3#4, 4#4, 7#4, 8#4, 9#4, 10#4] ∧
  [St.idle, .drainPre, .requestSent, .awaitAck, .retrying, .awaitRsp, .rspAcked, .drainPost, .done, .aborted,
    .faulted].map (fun x => x.code.toNat) = List.range 11

/-- The four read ports of the decoder (R277), with the values of R264 and R265. The word read stands in the MODEL's
field `rdata` (log entry 6). -/
def Obligations.DecoderReadPorts : Prop :=
  ∀ s : State, ∃ d m lo hi,
    exec .rdDstat s = .next { s with rdata := d } ∧ exec .rdFmeta s = .next { s with rdata := m } ∧
    exec .rdFvalLo s = .next { s with rdata := lo } ∧ exec .rdFvalHi s = .next { s with rdata := hi } ∧
    let ok : Bool := decide (req s.kind ≤ s.plen.toNat)
    d.getLsbD 0 = ok ∧ d.extractLsb' 1 4 = (if ok then 0#4 else 5#4) ∧ d.extractLsb' 5 3 = 0#3 ∧
    (d.extractLsb' 8 6).toNat = (layout s.kind).length ∧ d.extractLsb' 14 18 = 0#18 ∧
    match (layout s.kind)[s.fsel.toNat]? with
    | none => m = 0#32 ∧ lo = 0#32 ∧ hi = 0#32
    | some e =>
      (ok = true → e.isString = false →
        fmetaHas m false true e.offset e.width e.width.toNat ∧
        (hi ++ lo).toNat = fieldSum s e.offset.toNat e.width.toNat) ∧
      (ok = true → e.isString = true → lo = 0#32 ∧ hi = 0#32 ∧
        ∃ t, trimmedTo s e.offset.toNat e.width.toNat t ∧ fmetaHas m true true e.offset e.width t) ∧
      (ok = false → fmetaHas m e.isString false e.offset e.width 0 ∧ lo = 0#32 ∧ hi = 0#32)

/-- The remaining percentage, from the operation and from the two ports (R273). The value returned stands in the MODEL's
field `opr` (log entry 7). The word read stands in the MODEL's field `rdata` (log entry 6). -/
def Obligations.RemainingPercentage : Prop :=
  ∀ s : State, ∃ p lo hi,
    exec .pct s = .next { s with opr := .percent p } ∧
    exec .rdSumPctLo s = .next { s with rdata := lo } ∧ exec .rdSumPctHi s = .next { s with rdata := hi } ∧
    p.toNat = (if s.sumFull = 0#32 then 0 else s.sumRem.toNat * 100 / s.sumFull.toNat) ∧
    hi.toNat * 2 ^ 32 + lo.toNat = p.toNat ∧ hi.toNat < 2 ^ 7

/-- The battery-state label of `SUM_STATE` (R274, R275). The word read stands in the MODEL's field `rdata` (log entry
6). -/
def Obligations.SummaryLabel : Prop :=
  ∀ s : State, ∃ w, exec .rdSumLabel s = .next { s with rdata := w } ∧
    (s.sumState.toNat ∈ [0, 1, 2, 4, 5, 6] →
      w.extractLsb' 0 3 = s.sumState.extractLsb' 0 3 ∧ w.getLsbD 8 = false ∧ w.extractLsb' 12 4 = 0#4) ∧
    (s.sumState.toNat ∉ [0, 1, 2, 4, 5, 6] →
      w.extractLsb' 0 3 = 0#3 ∧ w.getLsbD 8 = true ∧ w.extractLsb' 12 4 = 6#4) ∧
    w.extractLsb' 3 5 = 0#5 ∧ w.extractLsb' 9 3 = 0#3 ∧ w.extractLsb' 16 16 = 0#16

/-- The state-code rows give the label words of their codes; any other code gives the unknown word (derived: R50, R115,
R274, R275; that such a row is an instruction is log entry 15). The value returned stands in the MODEL's field `opr`
(log entry 7). -/
def Obligations.StateCodeRows : Prop :=
  ∀ s : State,
    exec .stateNone s = .next { s with opr := .label 0#32 } ∧
    exec .stateDischarging s = .next { s with opr := .label 1#32 } ∧
    exec .stateCharging s = .next { s with opr := .label 2#32 } ∧
    exec .stateCritical s = .next { s with opr := .label 4#32 } ∧
    exec .stateCriticalDischarging s = .next { s with opr := .label 5#32 } ∧
    exec .stateCriticalCharging s = .next { s with opr := .label 6#32 } ∧
    ∀ v : Word, (Instr.stateUnknown v).wf = true →
      exec (.stateUnknown v) s = .next { s with opr := .label 0x00006100#32 }

/-- A read of `PBUF`: a byte below `PLEN` is returned; of a byte at or past it nothing is said but that some byte is
returned and nothing else of SFPE changes (derived: R27, R290; log entry 10). The word read stands in the MODEL's
field `rdata` (log entry 6). -/
def Obligations.PayloadBufferReads : Prop :=
  (∀ (i b : Byte) (s : State), i.toNat < 247 → i.toNat < s.plen.toNat → Memory.read s.pbuf i.toNat = some b →
    exec (.rdPbuf i) s = .next { s with rdata := b.zeroExtend 32 }) ∧
  (∀ (i : Byte) (s : State), i.toNat < 247 →
    ∃ (b : Byte) (n : Nat), exec (.rdPbuf i) s = .next { s with rdata := b.zeroExtend 32, draws := n })

/-! ### The payload decoder -/

/-- Every layout table is well-formed, whatever the OPEN contents are, and a malformed entry is refused (derived: R261, U6). That
the OPEN tables are shaped so that this holds of every choice of them is the model's choice (log entry 12), and so is that a
generic layout row is a table with that one entry, which `exec` refuses where it breaks R261 (log entry 13). -/
def Obligations.LayoutTablesWellFormed : Prop :=
  (∀ k : BitVec 3, (layout k).length ≤ 32 ∧ ((layout k).map Entry.name).Nodup ∧
    ∀ e ∈ layout k, 1 ≤ e.width.toNat ∧ e.offset.toNat + e.width.toNat ≤ 247 ∧
      (e.isString = false → e.width.toNat ≤ 8)) ∧
  (∀ (o w : Byte) (s : State), (w = 0#8 ∨ 247 < o.toNat + w.toNat ∨ 8 < w.toNat) →
    exec (.fieldUint o w) s = .refused .malformedLayoutEntry) ∧
  (∀ (o w : Byte) (s : State), (w = 0#8 ∨ 247 < o.toNat + w.toNat) →
    exec (.fieldString o w) s = .refused .malformedLayoutEntry)

/-- The length a table requires is the greatest end of an entry, 0 for an empty table (R262). The value returned stands
in the MODEL's field `opr` (log entry 7). -/
def Obligations.RequiredLength : Prop :=
  ∀ (k : BitVec 3) (s : State), ∃ n, exec (.reqLen k) s = .next { s with opr := .length n } ∧
    n.toNat = req k ∧
    (∀ e ∈ layout k, e.offset.toNat + e.width.toNat ≤ n.toNat) ∧
    (layout k = [] → n.toNat = 0) ∧
    (layout k ≠ [] → ∃ e ∈ layout k, e.offset.toNat + e.width.toNat = n.toNat)

/-- An unsigned integer field: the little-endian sum of its bytes, below `256^w`; with the payload too short no field
has a value (derived: R263, R264, R277; a table of one entry, log entry 13). The value returned stands in the
MODEL's field `opr` (log entry 7). -/
def Obligations.UnsignedIntegerField : Prop :=
  ∀ (o w : Byte) (s : State), 1 ≤ w.toNat → w.toNat ≤ 8 → o.toNat + w.toNat ≤ 247 →
    ∃ m lo hi, exec (.fieldUint o w) s = .next { s with opr := .field m lo hi } ∧
      (o.toNat + w.toNat ≤ s.plen.toNat → fmetaHas m false true o w w.toNat ∧
        (hi ++ lo).toNat = fieldSum s o.toNat w.toNat ∧ fieldSum s o.toNat w.toNat < 256 ^ w.toNat) ∧
      (s.plen.toNat < o.toNat + w.toNat → fmetaHas m false false o w 0 ∧ lo = 0#32 ∧ hi = 0#32)

/-- A string field: only its trailing null bytes are cut off (derived: R263, R265, R277; a table of one entry, log entry
13). The value returned stands in the MODEL's field `opr` (log entry 7). -/
def Obligations.StringField : Prop :=
  ∀ (o w : Byte) (s : State), 1 ≤ w.toNat → o.toNat + w.toNat ≤ 247 →
    ∃ m, exec (.fieldString o w) s = .next { s with opr := .field m 0#32 0#32 } ∧
      (o.toNat + w.toNat ≤ s.plen.toNat →
        ∃ t, trimmedTo s o.toNat w.toNat t ∧ fmetaHas m true true o w t) ∧
      (s.plen.toNat < o.toNat + w.toNat → fmetaHas m true false o w 0)

/-- The rows of the known tables: offset, width and value of each field (derived: R263, R264, R266, R269, R277; a row
decodes over its own kind's table, log entry 14). The value returned stands in the MODEL's field `opr` (log entry
7). -/
def Obligations.KnownTableRows : Prop :=
  req 0#3 = 1 ∧ req 3#3 = 16 ∧
  ∀ s : State,
    (∃ m lo hi, exec .l0BaseStatus s = .next { s with opr := .field m lo hi } ∧
      (1 ≤ s.plen.toNat → fmetaHas m false true 0#8 1#8 1 ∧ (hi ++ lo).toNat = (pbufByte s 0).toNat) ∧
      (s.plen.toNat < 1 → fmetaHas m false false 0#8 1#8 0 ∧ lo = 0#32 ∧ hi = 0#32)) ∧
    (∀ (i : Instr) (o : Byte),
      (i = .l3State ∧ o = 0#8) ∨ (i = .l3PresentRate ∧ o = 4#8) ∨ (i = .l3RemainingCapacity ∧ o = 8#8) ∨
        (i = .l3PresentVoltage ∧ o = 12#8) →
      ∃ m lo hi, exec i s = .next { s with opr := .field m lo hi } ∧
        (16 ≤ s.plen.toNat → fmetaHas m false true o 4#8 4 ∧ hi = 0#32 ∧
          lo = pbufByte s (o.toNat + 3) ++ pbufByte s (o.toNat + 2) ++ pbufByte s (o.toNat + 1) ++ pbufByte s o.toNat) ∧
        (s.plen.toNat < 16 → fmetaHas m false false o 4#8 0 ∧ lo = 0#32 ∧ hi = 0#32))

/-- How many entries each kind has, that the static-info table has at least three strings and three integers, and that every
layout row, in every state, returns what the read ports show of the same payload with `KIND` and `FSEL` at the row's kind and
place (derived: R260, R266 to R271, R277; log entries 12 and 14; that three entries are integers is log entry 27). The value
returned stands in the MODEL's field `opr` (log entry 7). The word read stands in the MODEL's field `rdata` (log entry 6). -/
def Obligations.LayoutRowsAgreeWithReadPorts : Prop :=
  ((layout 0#3).length = 1 ∧ (layout 1#3).length = 1 ∧ (layout 2#3).length = 1 ∧ (layout 3#3).length = 4 ∧
    (layout 4#3).length = 20 ∧ layout 5#3 = [] ∧ layout 6#3 = [] ∧ layout 7#3 = [] ∧
    3 ≤ (layout 4#3).countP (fun e => e.isString) ∧ 3 ≤ (layout 4#3).countP (fun e => !e.isString)) ∧
  ∀ (i : Instr) (k : BitVec 3) (j : Nat) (s : State),
    (i = .l0BaseStatus ∧ k = 0#3 ∧ j = 0) ∨ (i = .l1PowerSource ∧ k = 1#3 ∧ j = 0) ∨
      (i = .l2BatteryStatus ∧ k = 2#3 ∧ j = 0) ∨ (i = .l3State ∧ k = 3#3 ∧ j = 0) ∨
      (i = .l3PresentRate ∧ k = 3#3 ∧ j = 1) ∨ (i = .l3RemainingCapacity ∧ k = 3#3 ∧ j = 2) ∨
      (i = .l3PresentVoltage ∧ k = 3#3 ∧ j = 3) ∨ (∃ n : Fin 20, i = .l4BatteryStatic n ∧ k = 4#3 ∧ j = n.val) →
    ∃ m lo hi, exec i s = .next { s with opr := .field m lo hi } ∧ (layout k)[j]?.isSome = true ∧
      let p : State := { s with kind := k, fsel := BitVec.ofNat 5 j }
      p.fsel.toNat = j ∧ exec .rdFmeta p = .next { p with rdata := m } ∧ exec .rdFvalLo p = .next { p with rdata := lo } ∧
        exec .rdFvalHi p = .next { p with rdata := hi }

/-! ### The engine's steps -/

/-- The drain pop (R212). -/
def Obligations.DrainPop : Prop :=
  ∀ (s : State) (b : Byte) (q : List Byte),
    s.st = .drainPre ∨ s.st = .drainPost → s.rxq = b :: q → s.bc.toNat < 265 →
    ∃ fb, storesAtCounter b s { s with fb := fb } ∧
      let n := s.bc.toNat + 1
      let f := frameWith b s
      let s1 : State := { s with rxq := q, fb := fb }
      exec .stepDrainPop s = .next
        (if n = 3 then
          (if f 0 = 0xAA#8 ∧ f 1 = 0x55#8 ∧ b = 0x40#8 then { s1 with bc := 3#9, tl := 10#9 }
          else if f 0 = 0xAA#8 ∧ f 1 = 0x55#8 ∧ b = 0x80#8 then { s1 with bc := 3#9, tl := 0#9 }
          else if f 0 = 0x4E#8 ∧ f 1 = 0x00#8 ∧ b = 0x53#8 then { s1 with bc := 3#9, tl := 25#9 }
          else { s1 with bc := 3#9, st := .faulted, err := some ⟨.fatal .protocolDesync, s.st⟩ })
        else if n = 4 ∧ f 0 = 0xAA#8 ∧ f 1 = 0x55#8 ∧ f 2 = 0x80#8 then
          { s1 with bc := 4#9, tl := b.zeroExtend 9 + 10#9 }
        else if s.tl ≠ 0#9 ∧ n = s.tl.toNat then { s1 with bc := 0#9, tl := 0#9 }
        else { s1 with bc := BitVec.ofNat 9 n })

/-- Draining completes at a frame boundary with the queue empty: before the request, and after the response, where the
counters advance in the same step. In any other state, in mid-frame, or with a byte waiting, neither row is enabled (derived:
R213, R223, R229); that a disabled row changes nothing is the model's choice (log entry 3). -/
def Obligations.DrainComplete : Prop :=
  (∀ s : State, s.st = .drainPre → s.bc = 0#9 → s.rxq = [] →
    exec .stepDrainPreDone s = .next { s with st := .requestSent }) ∧
  (∀ s : State, s.st = .drainPost → s.bc = 0#9 → s.rxq = [] →
    exec .stepDrainPostDone s = .next { s with st := .done, seq := s.seq + 1#8, cnt := s.cnt + 1#16 }) ∧
  (∀ s : State, s.st ≠ .drainPre ∨ s.bc ≠ 0#9 ∨ s.rxq ≠ [] → exec .stepDrainPreDone s = .next s) ∧
  (∀ s : State, s.st ≠ .drainPost ∨ s.bc ≠ 0#9 ∨ s.rxq ≠ [] → exec .stepDrainPostDone s = .next s)

/-- The request is pushed (R214), pushed again on the one retry (R218), and a response acknowledged (R222). -/
def Obligations.EnginePushesFrames : Prop :=
  ∀ s : State,
    let request := encodeRequest s.desc.tc s.desc.iid s.desc.cid s.seq s.cnt
    (s.st = .requestSent → exec .stepSendRequest s
      = .next { s with txq := s.txq ++ request, st := .awaitAck, bc := 0#9, tl := 10#9 }) ∧
    (s.st = .retrying → exec .stepRetransmit s
      = .next { s with txq := s.txq ++ request, st := .awaitAck, bc := 0#9, tl := 10#9, retry := true,
                       retried := true }) ∧
    (s.st = .rspAcked → exec .stepSendAck s
      = .next { s with txq := s.txq ++ encodeAck s.rseq, st := .drainPost, bc := 0#9, tl := 0#9 })

/-- The bytes of an acknowledgement: the first nine are only counted (R215), and the tenth brings the outcome (R217). -/
def Obligations.AcknowledgementSteps : Prop :=
  (∀ (s : State) (b : Byte) (q : List Byte), s.st = .awaitAck → s.rxq = b :: q → s.bc.toNat < 9 →
      ∃ fb, storesAtCounter b s { s with fb := fb } ∧
        exec .stepAckPop s = .next { s with rxq := q, fb := fb, bc := BitVec.ofNat 9 (s.bc.toNat + 1) }) ∧
  (∀ (s : State) (b : Byte) (q : List Byte), s.st = .awaitAck → s.rxq = b :: q → s.bc = 9#9 →
      ∃ fb, storesAtCounter b s { s with fb := fb } ∧
        let s1 : State := { s with rxq := q, fb := fb, bc := 10#9 }
        exec .stepAckOutcome s = .next
          (match parseAck (frameWith b s) s.seq with
          | .error k => { s1 with st := .faulted, err := some ⟨.fatal k, .awaitAck⟩ }
          | .ok r =>
            if r.type ≠ 0x04#8 then { s1 with needsRetry := false, st := .awaitRsp, bc := 0#9, tl := 0#9 }
            else if s.retry = false then { s1 with needsRetry := true, st := .retrying }
            else { s1 with needsRetry := true, st := .aborted, err := some ⟨.ackRetryExhausted, .awaitAck⟩ }))

/-- The bytes of a response: those before the last, with the header check at the eighth (R220), and the last one with the body
check and the capture of the result (R221). -/
def Obligations.ResponseSteps : Prop :=
  (∀ (s : State) (b : Byte) (q : List Byte), s.st = .awaitRsp → s.rxq = b :: q →
      s.bc.toNat < 8 ∨ (s.bc.toNat + 1 < s.tl.toNat ∧ s.tl.toNat ≤ 265) →
      ∃ fb, storesAtCounter b s { s with fb := fb } ∧
        let s1 : State := { s with rxq := q, fb := fb, bc := BitVec.ofNat 9 (s.bc.toNat + 1) }
        exec .stepRspPop s = .next
          (if s.bc = 7#9 then
            (match parseResponseHeader (frameWith b s) with
            | .error k => { s1 with st := .faulted, err := some ⟨.fatal k, .awaitRsp⟩ }
            | .ok n => { s1 with tl := n.zeroExtend 9 + 10#9 })
          else s1)) ∧
  (∀ (s : State) (b : Byte) (q : List Byte), s.st = .awaitRsp → s.rxq = b :: q → 8 ≤ s.bc.toNat →
      s.bc.toNat + 1 = s.tl.toNat → s.tl.toNat ≤ 265 →
      ∃ fb, storesAtCounter b s { s with fb := fb } ∧
        let s1 : State := { s with rxq := q, fb := fb, bc := s.tl }
        match parseResponseBody (frameWith b s) s.desc.tc s.desc.iid s.desc.cid s.cnt with
        | .error k => exec .stepRspBody s = .next { s1 with st := .faulted, err := some ⟨.fatal k, .awaitRsp⟩ }
        | .ok r => ∃ pb, exec .stepRspBody s = .next { s1 with
            rseq := r.seq, plen := frameWith b s 3 - 8#8, pbuf := pb, st := .rspAcked } ∧
          r.payload.length = (frameWith b s 3 - 8#8).toNat ∧ ∀ a, Memory.read pb a = r.payload[a]?)

/-- The timeout step: enabled exactly by its guard, and then a fault entry that records the waiting state (derived: R227,
R332). That the row run with its guard false changes nothing is the model's choice (log entry 3), and so is that it happens
where the list of moves places it (log entry 26). -/
def Obligations.TimeoutStep : Prop :=
  ∀ s : State,
    let waiting := s.rxq = [] ∧ (s.st = .awaitAck ∨ s.st = .awaitRsp ∨ ((s.st = .drainPre ∨ s.st = .drainPost) ∧
      0 < s.bc.toNat))
    (s.cfg.tmoEn = true → waiting →
      exec .stepTimeout s = .next { s with err := some ⟨.fatal .timeout, s.st⟩, st := .faulted }) ∧
    (¬ (s.cfg.tmoEn = true ∧ waiting) → exec .stepTimeout s = .next s)

/-- An engine row acts exactly where the table of enabled steps names it; elsewhere it changes nothing. So at most one engine
step is enabled in any state (derived: R229, R230; that a disabled row changes nothing is log entry 3). -/
def Obligations.EngineStepsAreDeterministic : Prop :=
  ∀ (i : Instr) (s : State), isEngineStep i = true → (exec i s ≠ .next s ↔ engineNext s = some i)

/-- The table of enabled engine steps, state by state (derived: R229, with R227 for the waiting rows and R220 for the guard
in `AWAIT_RSP`). -/
def Obligations.EnabledStepTable : Prop :=
  ∀ (s : State) (b : Byte) (q : List Byte),
    (s.st = .idle ∨ s.st = .done ∨ s.st = .aborted ∨ s.st = .faulted → engineNext s = none) ∧
    (s.st = .drainPre ∨ s.st = .drainPost → s.rxq = b :: q → engineNext s = some .stepDrainPop) ∧
    (s.st = .drainPre → s.rxq = [] → engineNext s = if s.bc = 0#9 then some .stepDrainPreDone else none) ∧
    (s.st = .drainPost → s.rxq = [] → engineNext s = if s.bc = 0#9 then some .stepDrainPostDone else none) ∧
    (s.st = .requestSent → engineNext s = some .stepSendRequest) ∧
    (s.st = .retrying → engineNext s = some .stepRetransmit) ∧
    (s.st = .rspAcked → engineNext s = some .stepSendAck) ∧
    (s.st = .awaitAck ∨ s.st = .awaitRsp → s.rxq = [] → engineNext s = none) ∧
    (s.st = .awaitAck → s.rxq = b :: q → s.bc.toNat < 10 →
      engineNext s = if s.bc.toNat < 9 then some .stepAckPop else some .stepAckOutcome) ∧
    (s.st = .awaitRsp → s.rxq = b :: q → s.bc.toNat < 8 ∨ (s.tl ≠ 0#9 ∧ s.bc.toNat < s.tl.toNat) →
      engineNext s = if 8 ≤ s.bc.toNat ∧ s.bc.toNat + 1 = s.tl.toNat then some .stepRspBody else some .stepRspPop)

/-! ### Reset, counters, exceptions -/

/-- Reset: every register the spec gives a reset value takes it, from any state, and the power-on state has the same values
(R54, R350). Of `FB` and `PBUF` nothing is said. -/
def Obligations.ResetValues : Prop :=
  ∀ s : State, ∃ t, exec .reset s = .next t ∧ ∀ u, u = t ∨ u = State.reset →
    u.st = .idle ∧ u.bc = 0#9 ∧ u.tl = 0#9 ∧ u.retry = false ∧ u.seq = 0#8 ∧ u.cnt = 0#16 ∧
    u.desc = ⟨0#8, 0#8, 0#8⟩ ∧ u.kind = 0#3 ∧ u.rseq = 0#8 ∧ u.plen = 0#8 ∧ u.retried = false ∧ u.needsRetry = false ∧
    u.rxOvr = false ∧ u.err = none ∧ u.cfg = ⟨false, false⟩ ∧ u.fsel = 0#5 ∧ u.sumRem = 0#32 ∧ u.sumFull = 0#32 ∧
    u.sumState = 0#32 ∧ u.hcrc = 0xFFFF#16 ∧ u.rxq = [] ∧ u.txq = [] ∧ irq u = false ∧ statusWord u = 0#32

/-- `advance` repeated: both counters go up modulo their widths and nothing else changes; 256 advances bring `SEQ` back,
65536 both counters (derived: R201, R203; the row run by itself is log entry 16). -/
def Obligations.CountersArePeriodic : Prop :=
  (∀ (k : Nat) (s : State), ∃ t, execAll (List.replicate k .advance) s = .next t ∧
    t = { s with seq := t.seq, cnt := t.cnt } ∧
    t.seq.toNat = (s.seq.toNat + k) % 256 ∧ t.cnt.toNat = (s.cnt.toNat + k) % 65536) ∧
  (∀ s : State, exec .advance s = .next { s with seq := s.seq + 1#8, cnt := s.cnt + 1#16 }) ∧
  (∀ s : State, ∃ c, execAll (List.replicate 256 .advance) s = .next { s with cnt := c }) ∧
  (∀ s : State, execAll (List.replicate 65536 .advance) s = .next s)

/-- Fault entry saves the kind and the stage and changes nothing else but the state register; abort entry saves its kind and
stage 3 and changes nothing else but the state register (derived: R324, R325). That the two rows run by themselves, in any
state, is the model's choice (log entry 16). -/
def Obligations.ExceptionEntry : Prop :=
  (∀ (k : FatalKind) (s : State),
    exec (.raiseFault k) s = .next { s with err := some ⟨.fatal k, s.st⟩, st := .faulted }) ∧
  (∀ s : State, exec .abort s = .next { s with err := some ⟨.ackRetryExhausted, .awaitAck⟩, st := .aborted })

/-! ### The whole machine -/

/-- The state after reset is a good state (derived: R26, R27, R29, R30, R45, R54). -/
def Obligations.ResetIsGood : Prop := Inv State.reset

/-- A step from a good state leads to a good state: the byte counter and the target length stay in their ranges, `ERR` holds
what its state says, the retry bits agree, the buffers stay canonical and inside their sizes with `PBUF` holding exactly the
bytes below `PLEN`, and the receive queue stays within its depth (derived: R26, R27, R29, R30, R31, R32, R37, R38, R40, R45,
R88). -/
def Obligations.EveryStepKeepsGood : Prop :=
  ∀ s t : State, Inv s → step s = .next t → Inv t

/-- In a good state a move of an agent never stops the machine, and the only stop of any instruction in any state is one of
the two named ones (derived: R32, R70, R261; log entries 13 and 20). -/
def Obligations.NothingStopsAGoodState : Prop :=
  (∀ (i : Instr) (s : State), Inv s → agentOf i ≠ none → ∃ t, exec i s = .next t) ∧
  (∀ (i : Instr) (s : State) (r : Fault), exec i s = .fault r →
    r = .fbOutOfRange ∧ 265 ≤ s.bc.toNat ∧ s.rxq ≠ []) ∧
  (∀ (i : Instr) (s : State) (r : Refusal), exec i s = .refused r → r = .malformedLayoutEntry ∧ i.wf = false)

/-- Whoever moves, `ST` follows an edge of the state graph: the engine along its own, the timeout from a waiting state to
`FAULTED`, the host only by `START` from `IDLE`, by `CLR` from a terminal state, or by one write with both bits, reset to
`IDLE`, every other agent not at all (derived: R210, R292, R293, R301, R332, R350). That a row whose guard is false leaves the
state as it is, is the model's choice (log entry 3); that a write with both bits is one row `START`, log entry 18. -/
def Obligations.StateFollowsTheGraph : Prop :=
  ∀ (i : Instr) (s t : State), exec i s = .next t →
    match agentOf i with
    | some .engine => engineEdge s.st t.st = true ∨ t = s
    | some .timeout => (popsBytes s.st ∧ t.st = .faulted) ∨ t = s
    | some .host => t.st = s.st ∨
        (s.st = .idle ∧ t.st = .drainPre ∧ ∃ clr init rsv, i = .start clr init rsv) ∨
        (s.st.terminal = true ∧ t.st = .idle ∧ ∃ init rsv, i = .clr init rsv) ∨
        (s.st.terminal = true ∧ t.st = .drainPre ∧ ∃ init rsv, i = .start true init rsv)
    | some .resetInput => t.st = .idle
    | some .peer | some .transmitter => t.st = s.st
    | none => True

/-- The counters change only by the advance that enters `DONE`, by a host write while not busy, and by reset; the descriptor
only by a host write while not busy and by reset (derived: R21, R22, R23, R84, R201, R350). -/
def Obligations.CountersChangeOnlyWhenDone : Prop :=
  ∀ (i : Instr) (s t : State), agentOf i ≠ none → exec i s = .next t →
    (t.seq = s.seq ∧ t.cnt = s.cnt ∧ t.desc = s.desc) ∨
    (i = .stepDrainPostDone ∧ s.st = .drainPost ∧ t.st = .done ∧ t.seq = s.seq + 1#8 ∧ t.cnt = s.cnt + 1#16 ∧
      t.desc = s.desc) ∨
    (s.st.busy = false ∧ ∃ v, i = .wrSeq v ∨ i = .wrCnt v ∨ i = .wrDesc v) ∨
    i = .reset

/-- What is sent is whole frames: no agent's move but reset adds to the bytes sent or waiting to be sent anything but one
request of the present registers, or one acknowledgement, and only where the state graph sends it (derived: R56, R79,
R169, R214, R218, R222). -/
def Obligations.OnlyWholeFramesAreSent : Prop :=
  ∀ (i : Instr) (s t : State), agentOf i ≠ none → i ≠ .reset → exec i s = .next t →
    t.line ++ t.txq = s.line ++ s.txq ∨
    ((s.st = .requestSent ∨ s.st = .retrying) ∧ t.st = .awaitAck ∧ t.line ++ t.txq
      = s.line ++ s.txq ++ encodeRequest s.desc.tc s.desc.iid s.desc.cid s.seq s.cnt) ∨
    (s.st = .rspAcked ∧ t.st = .drainPost ∧ t.line ++ t.txq = s.line ++ s.txq ++ encodeAck s.rseq)

/-- The registers that only the host and the decoder use never bear on an exchange: for every move of the engine, the timeout,
the peer or the transmitter, changing them before the move is changing them after it (derived: R24, R51, R145, R276,
R279). -/
def Obligations.ExchangeIgnoresHostOnlyRegisters : Prop :=
  ∀ (i : Instr) (s : State) (k : BitVec 3) (f : BitVec 5) (r u x : Word) (h : Half),
    agentOf i = some .engine ∨ agentOf i = some .timeout ∨ agentOf i = some .peer ∨ agentOf i = some .transmitter →
    exec i (withHostOnly k f r u x h s) = mapNext (withHostOnly k f r u x h) (exec i s)

/-- The retry policy as a property: one failing acknowledgement then a succeeding one gives exactly one retransmission and
the wait for the response; two failing ones give the abort with the counters unchanged; two request frames are sent in both
(derived: R217, R218, R219). That the machine with no move left goes on by itself, step by step, is the model's choice (log
entry 2). -/
def Obligations.RetryPolicy : Prop :=
  ∀ (s : State) (q1 q2 t2 : Byte), s.st = .requestSent → s.retry = false → s.pending = [] →
    let request := encodeRequest s.desc.tc s.desc.iid s.desc.cid s.seq s.cnt
    (t2 ≠ 0x04#8 → (t2 = 0x40#8 → q2 = s.seq) → s.rxq = ackShape 0x04#8 q1 ++ ackShape t2 q2 →
      ∃ fb, (∀ k, 10 ≤ k → Memory.read fb k = Memory.read s.fb k) ∧ steps 22 s = .next { s with
        st := .awaitRsp, bc := 0#9, tl := 0#9, retry := true, retried := true, needsRetry := false, fb := fb, rxq := [],
        txq := s.txq ++ request ++ request }) ∧
    (s.rxq = ackShape 0x04#8 q1 ++ ackShape 0x04#8 q2 →
      ∃ fb, (∀ k, 10 ≤ k → Memory.read fb k = Memory.read s.fb k) ∧ steps 22 s = .next { s with
        st := .aborted, bc := 10#9, tl := 10#9, retry := true, retried := true, needsRetry := true, fb := fb, rxq := [],
        err := some ⟨.ackRetryExhausted, .awaitAck⟩, txq := s.txq ++ request ++ request })

/-- A response that echoes the request is captured, acknowledged with its own `seq`, and ends the exchange in `DONE`
with both counters advanced once and the raw payload in `PBUF` (derived: R220, R221, R222, R223, R166). That the
machine alone goes on step by step is log entry 2. -/
def Obligations.ResponseCompletesTheExchange : Prop :=
  ∀ (s : State) (r q : Byte) (raw : List Byte), s.st = .awaitRsp → s.bc = 0#9 → s.tl = 0#9 → s.pending = [] →
    raw.length ≤ 247 →
    s.rxq = rspFrame r q (echoPrefix s.desc.tc s.desc.iid s.desc.cid s.cnt ++ raw) →
    ∃ fb pb, (∀ k, raw.length + 18 ≤ k → Memory.read fb k = Memory.read s.fb k) ∧
      steps (raw.length + 20) s = .next { s with
        st := .done, bc := 0#9, tl := 0#9, rseq := q, plen := BitVec.ofNat 8 raw.length, pbuf := pb, fb := fb, rxq := [],
        txq := s.txq ++ encodeAck q, seq := s.seq + 1#8, cnt := s.cnt + 1#16 } ∧
      ∀ a, Memory.read pb a = raw[a]?

/-- A waiting engine waits for ever when nothing arrives: any number of steps leaves the state as it is, it is busy, and
`START`, `CLR` and the protected writes are ignored. The timeout ends the wait with `TMO_EN = 1` and only then, and reset ends
it always (derived: R227, R332, R354, R350). That a step of a waiting machine changes nothing is the model's choice (log entry
2); that this holds with `TMO_EN = 1` too, because an enabled timeout fires only where the list of moves places it, is log
entry 26; that the disabled timeout row changes nothing is log entry 3. -/
def Obligations.WaitingNeverEnds : Prop :=
  ∀ (s : State) (n : Nat), engineWaiting s = true → s.pending = [] →
    steps n s = .next s ∧ s.st.busy = true ∧ statusWord s &&& 1#32 = 1#32 ∧
    (s.cfg.tmoEn = false → exec .stepTimeout s = .next s) ∧
    (s.cfg.tmoEn = true → exec .stepTimeout s = .next { s with err := some ⟨.fatal .timeout, s.st⟩, st := .faulted }) ∧
    (∃ t, exec .reset s = .next t ∧ t.st = .idle) ∧
    ∀ (v : Word) (rsv : BitVec 29), exec (.start false false rsv) s = .next s ∧ exec (.clr false rsv) s = .next s ∧
      exec (.wrSeq v) s = .next s ∧ exec (.wrCnt v) s = .next s ∧ exec (.wrDesc v) s = .next s

/-- The interrupt output (derived: R59, R328, R329): it is 1 exactly with `CFG.IE` set in one of the three terminal states, and
nothing else bears on it, neither the decoder, the summary, `RX_OVR` nor `RX_AVAIL`. It asserts in the step of the engine or of
the timeout that enters a terminal state with `CFG.IE` set, or when the host sets `CFG.IE` in a terminal state, by no other
move; it deasserts by `CLR`, when the host clears `CFG.IE`, or on reset, by no other move. That `CLR` may stand in a row
`START` with its `CLR` bit is log entry 18; that a row whose guard is false changes nothing, log entry 3. -/
def Obligations.InterruptOutput : Prop :=
  (∀ s : State, irq s = true ↔ s.cfg.ie = true ∧ (s.st = .done ∨ s.st = .aborted ∨ s.st = .faulted)) ∧
  (∀ s t : State, s.st = t.st → s.cfg.ie = t.cfg.ie → irq s = irq t) ∧
  (∀ (v : Word) (s : State), ∃ t, exec (.wrCfg v) s = .next t ∧ (irq t = true ↔ v.getLsbD 0 = true ∧ s.st.terminal = true)) ∧
  (∀ (init : Bool) (rsv : BitVec 29) (s : State), ∃ t, exec (.clr init rsv) s = .next t ∧ irq t = false) ∧
  (∀ s : State, ∃ t, exec .reset s = .next t ∧ irq t = false) ∧
  (∀ (i : Instr) (s t : State), isEngineStep i = true ∨ i = .stepTimeout → exec i s = .next t → s.cfg.ie = true →
    s.st.terminal = false → irq s = false ∧ irq t = t.st.terminal) ∧
  ∀ (i : Instr) (s t : State), (agentOf i ≠ none ∧ agentOf i ≠ some .peer) ∨ (∃ b, i = .rxArrive b) → exec i s = .next t →
    (irq s = false → irq t = true →
      ((isEngineStep i = true ∨ i = .stepTimeout) ∧ s.cfg.ie = true ∧ s.st.terminal = false ∧ t.st.terminal = true) ∨
      (s.st.terminal = true ∧ ∃ v, i = .wrCfg v ∧ v.getLsbD 0 = true)) ∧
    (irq s = true → irq t = false →
      (∃ init rsv, i = .clr init rsv) ∨ (∃ init rsv, i = .start true init rsv) ∨
      (∃ v, i = .wrCfg v ∧ v.getLsbD 0 = false) ∨ i = .reset)
end

