-- ==== Sys2Proof/Laws/Codec.lean ====
section
/-! SUPPORT. The laws of the byte and bit-field helpers that the decoder and the encoder share: what is put together and taken
apart again is unchanged. -/

namespace Sys2Proof

/-- A move that begins with a format byte is read by that format's decoder. -/
@[simp] theorem decode_tag (f : Format) (bytes : List Byte) : decode (f.tag :: bytes) = decodeBody f bytes := by
  cases f <;> rfl

/-- Only the format bytes name a format. -/
theorem formatOf_eq_some {t : Byte} {f : Format} (h : formatOf t = some f) : t = f.tag := by
  unfold formatOf at h
  apply BitVec.eq_of_toNat_eq
  split at h <;> cases h <;> (rename_i e; exact e)

@[simp] theorem wordOf_wordBytes (v : Word) :
    wordOf (wordByte v 0) (wordByte v 1) (wordByte v 2) (wordByte v 3) = v := by
  unfold wordOf wordByte
  ext i hi
  simp only [BitVec.getElem_append, BitVec.getElem_extractLsb']
  split_ifs <;> simp <;> grind

theorem wordByte_wordOf (b0 b1 b2 b3 : Byte) :
    wordByte (wordOf b0 b1 b2 b3) 0 = b0 ∧ wordByte (wordOf b0 b1 b2 b3) 1 = b1 ∧
      wordByte (wordOf b0 b1 b2 b3) 2 = b2 ∧ wordByte (wordOf b0 b1 b2 b3) 3 = b3 := by
  unfold wordOf wordByte
  refine ⟨?_, ?_, ?_, ?_⟩ <;> ext i hi <;> rw [BitVec.getElem_extractLsb'] <;> repeat rw [BitVec.getLsbD_append]
  all_goals grind

@[simp] theorem regOf_bytes (n : RegNum) : regOf (regLo n) (regHi n) = n := by
  unfold regOf regLo regHi
  ext i hi
  simp only [BitVec.getElem_append, BitVec.getElem_extractLsb']
  split_ifs <;> simp <;> grind

@[simp] theorem regHi_lt (n : RegNum) : (regHi n).toNat < 16 := by
  unfold regHi
  have := (n.extractLsb' 8 4).isLt
  simp at *
  omega

@[simp] theorem regLo_regOf (lo hi : Byte) : regLo (regOf lo hi) = lo := by
  unfold regOf regLo
  ext i h
  rw [BitVec.getElem_extractLsb', BitVec.getLsbD_append]
  grind

theorem regHi_regOf (lo hi : Byte) (h : hi.toNat < 16) : regHi (regOf lo hi) = hi := by
  unfold regOf regHi
  apply BitVec.eq_of_toNat_eq
  have e : BitVec.extractLsb' 8 4 (BitVec.extractLsb' 0 4 hi ++ lo) = hi.extractLsb' 0 4 := by
    ext i h
    rw [BitVec.getElem_extractLsb', BitVec.getLsbD_append]
    grind
  rw [e]
  simp
  omega

@[simp] theorem half_bytes (c : Half) : half (loByte c) (hiByte c) = c := by
  unfold half loByte hiByte
  ext i hi
  simp only [BitVec.getElem_append, BitVec.getElem_extractLsb']
  split_ifs <;> simp <;> grind

@[simp] theorem loByte_half (lo hi : Byte) : loByte (half lo hi) = lo := by
  unfold half loByte
  ext i h
  rw [BitVec.getElem_extractLsb', BitVec.getLsbD_append]
  grind

@[simp] theorem hiByte_half (lo hi : Byte) : hiByte (half lo hi) = hi := by
  unfold half hiByte
  ext i h
  rw [BitVec.getElem_extractLsb', BitVec.getLsbD_append]
  grind

@[simp] theorem ctrlWord_start (a b c : Bool) (r : BitVec 29) : (ctrlWord a b c r)[0] = a := by
  unfold ctrlWord
  rw [BitVec.getElem_append]
  simp

@[simp] theorem ctrlWord_clr (a b c : Bool) (r : BitVec 29) : (ctrlWord a b c r)[1] = b := by
  unfold ctrlWord
  rw [BitVec.getElem_append]
  simp only [Nat.lt_irrefl, dite_false, Nat.sub_self]
  rw [BitVec.getElem_append]
  simp

@[simp] theorem ctrlWord_init (a b c : Bool) (r : BitVec 29) : (ctrlWord a b c r)[2] = c := by
  unfold ctrlWord
  rw [BitVec.getElem_append]
  simp only [Nat.reduceLT, dite_false, Nat.reduceSub]
  rw [BitVec.getElem_append]
  simp only [Nat.lt_irrefl, dite_false, Nat.sub_self]
  rw [BitVec.getElem_append]
  simp

@[simp] theorem ctrlWord_reserved (a b c : Bool) (r : BitVec 29) : (ctrlWord a b c r).extractLsb' 3 29 = r := by
  unfold ctrlWord
  ext i hi
  rw [BitVec.getElem_extractLsb']
  repeat rw [BitVec.getLsbD_append]
  grind

/-- The value of a `CTRL` write is its command bits and its reserved bits. -/
theorem ctrlWord_of (v : Word) : ctrlWord v[0] v[1] v[2] (v.extractLsb' 3 29) = v := by
  unfold ctrlWord
  apply BitVec.eq_of_getLsbD_eq
  intro i hi
  repeat rw [BitVec.getLsbD_append]
  simp only [BitVec.getLsbD_extractLsb', BitVec.getLsbD_ofBool]
  grind

/-- A layout word is its offset, its width and its string bit (R113). -/
@[simp] theorem layoutWord_offset (o w : Byte) (e : Bool) : (layoutWord o w e).extractLsb' 0 8 = o := by
  unfold layoutWord
  ext i hi
  rw [BitVec.getElem_extractLsb']
  repeat rw [BitVec.getLsbD_append]
  grind

@[simp] theorem layoutWord_width (o w : Byte) (e : Bool) : (layoutWord o w e).extractLsb' 8 8 = w := by
  unfold layoutWord
  ext i hi
  rw [BitVec.getElem_extractLsb']
  repeat rw [BitVec.getLsbD_append]
  grind

@[simp] theorem layoutWord_enc (o w : Byte) (e : Bool) : (layoutWord o w e)[16] = e := by
  unfold layoutWord
  rw [BitVec.getElem_append]
  simp only [Nat.reduceLT, dite_false, Nat.reduceSub]
  rw [BitVec.getElem_append]
  simp

/-- Two layout words are equal only if their fields are. -/
theorem layoutWord_inj {o w o' w' : Byte} {e e' : Bool} (h : layoutWord o w e = layoutWord o' w' e') :
    o = o' ∧ w = w' ∧ e = e' := by
  refine ⟨?_, ?_, ?_⟩
  · rw [← layoutWord_offset o w e, h, layoutWord_offset]
  · rw [← layoutWord_width o w e, h, layoutWord_width]
  · rw [← layoutWord_enc o w e, h, layoutWord_enc]

/-- The move of a host write decodes to the row of its register and value. -/
theorem decode_encodeWrite (n : RegNum) (v : Word) : decode (encodeWrite n v) = .ok (decodeWrite n v) := by
  simp [encodeWrite, decodeBody, decodeHostWrite]

/-- The move of a host read decodes to the row of its register. -/
theorem decode_encodeRead (n : RegNum) : decode (encodeRead n) = .ok (decodeRead n) := by
  simp [encodeRead, decodeBody, decodeHostRead]

/-- The move of a state code decodes to the row of its value. -/
theorem decode_encodeState (v : Word) : decode (encodeState v) = .ok (decodeStateWord v) := by
  simp [encodeState, decodeBody, decodeStateCode]

end Sys2Proof
end

