-- ==== Sys2Proof/Laws/Memory.lean ====
section
/-! SUPPORT. The laws of the byte buffers: read after write, the canonical form, and the buffer made from a list. -/

namespace Sys2Proof.Machine

@[simp] theorem Memory.read_nil (a : Nat) : Memory.read [] a = none := rfl

theorem Memory.read_write_same (m : Memory) (a : Nat) (b : Byte) : Memory.read (Memory.write m a b) a = some b := by
  induction m with
  | nil => simp [Memory.write, Memory.read]
  | cons c m ih =>
    obtain ⟨k, x⟩ := c
    unfold Memory.write
    split
    · simp [Memory.read]
    · split
      · simp_all [Memory.read]
      · simp_all [Memory.read]

theorem Memory.read_write_other (m : Memory) (a a' : Nat) (b : Byte) (h : a' ≠ a) :
    Memory.read (Memory.write m a b) a' = Memory.read m a' := by
  induction m with
  | nil => simp [Memory.write, Memory.read, h]
  | cons c m ih =>
    obtain ⟨k, x⟩ := c
    unfold Memory.write
    split
    · simp [Memory.read, h]
    · split
      · rename_i _ hk
        subst hk
        simp [Memory.read, h]
      · simp [Memory.read, ih]

/-- Everything that reading after a write can give. -/
theorem Memory.read_write (m : Memory) (a a' : Nat) (b : Byte) :
    Memory.read (Memory.write m a b) a' = if a' = a then some b else Memory.read m a' := by
  by_cases h : a' = a
  · subst h; simp [Memory.read_write_same]
  · simp [h, Memory.read_write_other m a a' b h]

theorem Memory.wfFrom_mono {low low' : Nat} {m : Memory} (h : low' ≤ low) (hm : Memory.wfFrom low m = true) :
    Memory.wfFrom low' m = true := by
  cases m with
  | nil => rfl
  | cons c m =>
    obtain ⟨k, x⟩ := c
    simp only [Memory.wfFrom, Bool.and_eq_true, decide_eq_true_eq] at *
    exact ⟨le_trans h hm.1, hm.2⟩

theorem Memory.wfFrom_write {low : Nat} (m : Memory) (a : Nat) (b : Byte) (ha : low ≤ a)
    (hm : Memory.wfFrom low m = true) : Memory.wfFrom low (Memory.write m a b) = true := by
  induction m generalizing low with
  | nil => simp [Memory.write, Memory.wfFrom, ha]
  | cons c m ih =>
    obtain ⟨k, x⟩ := c
    simp only [Memory.wfFrom, Bool.and_eq_true, decide_eq_true_eq] at hm
    unfold Memory.write
    split
    · rename_i hk
      simp only [Memory.wfFrom, Bool.and_eq_true, decide_eq_true_eq]
      exact ⟨ha, hk, hm.2⟩
    · split
      · simp only [Memory.wfFrom, Bool.and_eq_true, decide_eq_true_eq]
        exact hm
      · simp only [Memory.wfFrom, Bool.and_eq_true, decide_eq_true_eq]
        exact ⟨hm.1, ih (by omega) hm.2⟩

/-- A write keeps the canonical form. -/
theorem Memory.wf_write (m : Memory) (a : Nat) (b : Byte) (hm : Memory.wf m = true) :
    Memory.wf (Memory.write m a b) = true := Memory.wfFrom_write m a b (Nat.zero_le a) hm

/-- A write below the size stays below the size. -/
theorem Memory.below_write (m : Memory) (a size : Nat) (b : Byte) (ha : a < size)
    (hm : Memory.below m size = true) : Memory.below (Memory.write m a b) size = true := by
  induction m with
  | nil => simp [Memory.write, Memory.below, ha]
  | cons c m ih =>
    obtain ⟨k, x⟩ := c
    simp only [Memory.below, List.all_cons, Bool.and_eq_true, decide_eq_true_eq] at *
    unfold Memory.write
    split
    · simp_all; exact hm.2
    · split
      · simp_all; exact hm.2
      · simp_all; exact ih

/-- What the buffer made from a list holds. -/
theorem Memory.read_ofBytes (base a : Nat) (bytes : List Byte) :
    Memory.read (Memory.ofBytes base bytes) a = if base ≤ a then bytes[a - base]? else none := by
  induction bytes generalizing base with
  | nil => simp [Memory.ofBytes]
  | cons b bs ih =>
    simp only [Memory.ofBytes, Memory.read, ih]
    split_ifs <;> first | omega | skip
    · subst_vars; simp
    · rename_i h1 h2 h3
      obtain ⟨d, rfl⟩ : ∃ d, a = base + 1 + d := ⟨a - (base + 1), by omega⟩
      have e1 : base + 1 + d - (base + 1) = d := by omega
      have e2 : base + 1 + d - base = d + 1 := by omega
      rw [e1, e2, List.getElem?_cons_succ]
    · rfl

theorem Memory.wfFrom_ofBytes (base : Nat) (bytes : List Byte) :
    Memory.wfFrom base (Memory.ofBytes base bytes) = true := by
  induction bytes generalizing base with
  | nil => rfl
  | cons b bs ih => simp [Memory.ofBytes, Memory.wfFrom, ih]

/-- The buffer made from a list is canonical. -/
theorem Memory.wf_ofBytes (base : Nat) (bytes : List Byte) : Memory.wf (Memory.ofBytes base bytes) = true :=
  Memory.wfFrom_mono (Nat.zero_le base) (Memory.wfFrom_ofBytes base bytes)

/-- The buffer made from a list lies inside the list's length. -/
theorem Memory.below_ofBytes (base size : Nat) (bytes : List Byte) (h : base + bytes.length ≤ size) :
    Memory.below (Memory.ofBytes base bytes) size = true := by
  induction bytes generalizing base with
  | nil => rfl
  | cons b bs ih =>
    simp only [List.length_cons] at h
    have := ih (base + 1) (by omega)
    simp only [Memory.below] at this
    simp only [Memory.ofBytes, Memory.below, List.all_cons, Bool.and_eq_true, decide_eq_true_eq]
    exact ⟨by omega, this⟩

/-- Every buffer operation keeps the canonical form, and reset's buffers have it. -/
theorem reset_buffers_wf : Memory.wf State.reset.fb = true ∧ Memory.wf State.reset.pbuf = true := ⟨rfl, rfl⟩

@[simp] theorem Memory.byteAt_of_read {m : Memory} {a : Nat} {b : Byte} (h : Memory.read m a = some b) :
    Memory.byteAt m a = b := by simp [Memory.byteAt, h]

end Sys2Proof.Machine
end

