-- ==== Sys2Proof/Laws/State.lean ====
section
/-! SUPPORT. One lemma per field for each named update of the state: what the update leaves alone and what it sets. -/

namespace Sys2Proof.Machine

@[simp] theorem raiseFault_st (k : FatalKind) (s : State) : (raiseFault k s).st = .faulted := rfl
@[simp] theorem raiseFault_bc (k : FatalKind) (s : State) : (raiseFault k s).bc = s.bc := rfl
@[simp] theorem raiseFault_tl (k : FatalKind) (s : State) : (raiseFault k s).tl = s.tl := rfl
@[simp] theorem raiseFault_retry (k : FatalKind) (s : State) : (raiseFault k s).retry = s.retry := rfl
@[simp] theorem raiseFault_fb (k : FatalKind) (s : State) : (raiseFault k s).fb = s.fb := rfl
@[simp] theorem raiseFault_seq (k : FatalKind) (s : State) : (raiseFault k s).seq = s.seq := rfl
@[simp] theorem raiseFault_cnt (k : FatalKind) (s : State) : (raiseFault k s).cnt = s.cnt := rfl
@[simp] theorem raiseFault_desc (k : FatalKind) (s : State) : (raiseFault k s).desc = s.desc := rfl
@[simp] theorem raiseFault_kind (k : FatalKind) (s : State) : (raiseFault k s).kind = s.kind := rfl
@[simp] theorem raiseFault_rseq (k : FatalKind) (s : State) : (raiseFault k s).rseq = s.rseq := rfl
@[simp] theorem raiseFault_plen (k : FatalKind) (s : State) : (raiseFault k s).plen = s.plen := rfl
@[simp] theorem raiseFault_pbuf (k : FatalKind) (s : State) : (raiseFault k s).pbuf = s.pbuf := rfl
@[simp] theorem raiseFault_retried (k : FatalKind) (s : State) : (raiseFault k s).retried = s.retried := rfl
@[simp] theorem raiseFault_needsRetry (k : FatalKind) (s : State) : (raiseFault k s).needsRetry = s.needsRetry := rfl
@[simp] theorem raiseFault_rxOvr (k : FatalKind) (s : State) : (raiseFault k s).rxOvr = s.rxOvr := rfl
@[simp] theorem raiseFault_err (k : FatalKind) (s : State) : (raiseFault k s).err = some ⟨.fatal k, s.st⟩ := rfl
@[simp] theorem raiseFault_cfg (k : FatalKind) (s : State) : (raiseFault k s).cfg = s.cfg := rfl
@[simp] theorem raiseFault_fsel (k : FatalKind) (s : State) : (raiseFault k s).fsel = s.fsel := rfl
@[simp] theorem raiseFault_sumRem (k : FatalKind) (s : State) : (raiseFault k s).sumRem = s.sumRem := rfl
@[simp] theorem raiseFault_sumFull (k : FatalKind) (s : State) : (raiseFault k s).sumFull = s.sumFull := rfl
@[simp] theorem raiseFault_sumState (k : FatalKind) (s : State) : (raiseFault k s).sumState = s.sumState := rfl
@[simp] theorem raiseFault_hcrc (k : FatalKind) (s : State) : (raiseFault k s).hcrc = s.hcrc := rfl
@[simp] theorem raiseFault_rxq (k : FatalKind) (s : State) : (raiseFault k s).rxq = s.rxq := rfl
@[simp] theorem raiseFault_txq (k : FatalKind) (s : State) : (raiseFault k s).txq = s.txq := rfl
@[simp] theorem raiseFault_rxDepth (k : FatalKind) (s : State) : (raiseFault k s).rxDepth = s.rxDepth := rfl
@[simp] theorem raiseFault_line (k : FatalKind) (s : State) : (raiseFault k s).line = s.line := rfl
@[simp] theorem raiseFault_pending (k : FatalKind) (s : State) : (raiseFault k s).pending = s.pending := rfl
@[simp] theorem raiseFault_rdata (k : FatalKind) (s : State) : (raiseFault k s).rdata = s.rdata := rfl
@[simp] theorem raiseFault_opr (k : FatalKind) (s : State) : (raiseFault k s).opr = s.opr := rfl
@[simp] theorem raiseFault_draws (k : FatalKind) (s : State) : (raiseFault k s).draws = s.draws := rfl

@[simp] theorem abortEntry_st (s : State) : (abortEntry s).st = .aborted := rfl
@[simp] theorem abortEntry_bc (s : State) : (abortEntry s).bc = s.bc := rfl
@[simp] theorem abortEntry_tl (s : State) : (abortEntry s).tl = s.tl := rfl
@[simp] theorem abortEntry_retry (s : State) : (abortEntry s).retry = s.retry := rfl
@[simp] theorem abortEntry_fb (s : State) : (abortEntry s).fb = s.fb := rfl
@[simp] theorem abortEntry_seq (s : State) : (abortEntry s).seq = s.seq := rfl
@[simp] theorem abortEntry_cnt (s : State) : (abortEntry s).cnt = s.cnt := rfl
@[simp] theorem abortEntry_desc (s : State) : (abortEntry s).desc = s.desc := rfl
@[simp] theorem abortEntry_kind (s : State) : (abortEntry s).kind = s.kind := rfl
@[simp] theorem abortEntry_rseq (s : State) : (abortEntry s).rseq = s.rseq := rfl
@[simp] theorem abortEntry_plen (s : State) : (abortEntry s).plen = s.plen := rfl
@[simp] theorem abortEntry_pbuf (s : State) : (abortEntry s).pbuf = s.pbuf := rfl
@[simp] theorem abortEntry_retried (s : State) : (abortEntry s).retried = s.retried := rfl
@[simp] theorem abortEntry_needsRetry (s : State) : (abortEntry s).needsRetry = s.needsRetry := rfl
@[simp] theorem abortEntry_rxOvr (s : State) : (abortEntry s).rxOvr = s.rxOvr := rfl
@[simp] theorem abortEntry_err (s : State) : (abortEntry s).err = some ⟨.ackRetryExhausted, .awaitAck⟩ := rfl
@[simp] theorem abortEntry_cfg (s : State) : (abortEntry s).cfg = s.cfg := rfl
@[simp] theorem abortEntry_fsel (s : State) : (abortEntry s).fsel = s.fsel := rfl
@[simp] theorem abortEntry_sumRem (s : State) : (abortEntry s).sumRem = s.sumRem := rfl
@[simp] theorem abortEntry_sumFull (s : State) : (abortEntry s).sumFull = s.sumFull := rfl
@[simp] theorem abortEntry_sumState (s : State) : (abortEntry s).sumState = s.sumState := rfl
@[simp] theorem abortEntry_hcrc (s : State) : (abortEntry s).hcrc = s.hcrc := rfl
@[simp] theorem abortEntry_rxq (s : State) : (abortEntry s).rxq = s.rxq := rfl
@[simp] theorem abortEntry_txq (s : State) : (abortEntry s).txq = s.txq := rfl
@[simp] theorem abortEntry_rxDepth (s : State) : (abortEntry s).rxDepth = s.rxDepth := rfl
@[simp] theorem abortEntry_line (s : State) : (abortEntry s).line = s.line := rfl
@[simp] theorem abortEntry_pending (s : State) : (abortEntry s).pending = s.pending := rfl
@[simp] theorem abortEntry_rdata (s : State) : (abortEntry s).rdata = s.rdata := rfl
@[simp] theorem abortEntry_opr (s : State) : (abortEntry s).opr = s.opr := rfl
@[simp] theorem abortEntry_draws (s : State) : (abortEntry s).draws = s.draws := rfl

@[simp] theorem pushFrame_st (bytes : List Byte) (s : State) : (pushFrame bytes s).st = s.st := rfl
@[simp] theorem pushFrame_bc (bytes : List Byte) (s : State) : (pushFrame bytes s).bc = s.bc := rfl
@[simp] theorem pushFrame_tl (bytes : List Byte) (s : State) : (pushFrame bytes s).tl = s.tl := rfl
@[simp] theorem pushFrame_retry (bytes : List Byte) (s : State) : (pushFrame bytes s).retry = s.retry := rfl
@[simp] theorem pushFrame_fb (bytes : List Byte) (s : State) : (pushFrame bytes s).fb = s.fb := rfl
@[simp] theorem pushFrame_seq (bytes : List Byte) (s : State) : (pushFrame bytes s).seq = s.seq := rfl
@[simp] theorem pushFrame_cnt (bytes : List Byte) (s : State) : (pushFrame bytes s).cnt = s.cnt := rfl
@[simp] theorem pushFrame_desc (bytes : List Byte) (s : State) : (pushFrame bytes s).desc = s.desc := rfl
@[simp] theorem pushFrame_kind (bytes : List Byte) (s : State) : (pushFrame bytes s).kind = s.kind := rfl
@[simp] theorem pushFrame_rseq (bytes : List Byte) (s : State) : (pushFrame bytes s).rseq = s.rseq := rfl
@[simp] theorem pushFrame_plen (bytes : List Byte) (s : State) : (pushFrame bytes s).plen = s.plen := rfl
@[simp] theorem pushFrame_pbuf (bytes : List Byte) (s : State) : (pushFrame bytes s).pbuf = s.pbuf := rfl
@[simp] theorem pushFrame_retried (bytes : List Byte) (s : State) : (pushFrame bytes s).retried = s.retried := rfl
@[simp] theorem pushFrame_needsRetry (bytes : List Byte) (s : State) : (pushFrame bytes s).needsRetry = s.needsRetry := rfl
@[simp] theorem pushFrame_rxOvr (bytes : List Byte) (s : State) : (pushFrame bytes s).rxOvr = s.rxOvr := rfl
@[simp] theorem pushFrame_err (bytes : List Byte) (s : State) : (pushFrame bytes s).err = s.err := rfl
@[simp] theorem pushFrame_cfg (bytes : List Byte) (s : State) : (pushFrame bytes s).cfg = s.cfg := rfl
@[simp] theorem pushFrame_fsel (bytes : List Byte) (s : State) : (pushFrame bytes s).fsel = s.fsel := rfl
@[simp] theorem pushFrame_sumRem (bytes : List Byte) (s : State) : (pushFrame bytes s).sumRem = s.sumRem := rfl
@[simp] theorem pushFrame_sumFull (bytes : List Byte) (s : State) : (pushFrame bytes s).sumFull = s.sumFull := rfl
@[simp] theorem pushFrame_sumState (bytes : List Byte) (s : State) : (pushFrame bytes s).sumState = s.sumState := rfl
@[simp] theorem pushFrame_hcrc (bytes : List Byte) (s : State) : (pushFrame bytes s).hcrc = s.hcrc := rfl
@[simp] theorem pushFrame_rxq (bytes : List Byte) (s : State) : (pushFrame bytes s).rxq = s.rxq := rfl
@[simp] theorem pushFrame_txq (bytes : List Byte) (s : State) : (pushFrame bytes s).txq = s.txq ++ bytes := rfl
@[simp] theorem pushFrame_rxDepth (bytes : List Byte) (s : State) : (pushFrame bytes s).rxDepth = s.rxDepth := rfl
@[simp] theorem pushFrame_line (bytes : List Byte) (s : State) : (pushFrame bytes s).line = s.line := rfl
@[simp] theorem pushFrame_pending (bytes : List Byte) (s : State) : (pushFrame bytes s).pending = s.pending := rfl
@[simp] theorem pushFrame_rdata (bytes : List Byte) (s : State) : (pushFrame bytes s).rdata = s.rdata := rfl
@[simp] theorem pushFrame_opr (bytes : List Byte) (s : State) : (pushFrame bytes s).opr = s.opr := rfl
@[simp] theorem pushFrame_draws (bytes : List Byte) (s : State) : (pushFrame bytes s).draws = s.draws := rfl

@[simp] theorem sendRequest_st (s : State) : (sendRequest s).st = .awaitAck := rfl
@[simp] theorem sendRequest_bc (s : State) : (sendRequest s).bc = 0#9 := rfl
@[simp] theorem sendRequest_tl (s : State) : (sendRequest s).tl = 10#9 := rfl
@[simp] theorem sendRequest_retry (s : State) : (sendRequest s).retry = s.retry := rfl
@[simp] theorem sendRequest_fb (s : State) : (sendRequest s).fb = s.fb := rfl
@[simp] theorem sendRequest_seq (s : State) : (sendRequest s).seq = s.seq := rfl
@[simp] theorem sendRequest_cnt (s : State) : (sendRequest s).cnt = s.cnt := rfl
@[simp] theorem sendRequest_desc (s : State) : (sendRequest s).desc = s.desc := rfl
@[simp] theorem sendRequest_kind (s : State) : (sendRequest s).kind = s.kind := rfl
@[simp] theorem sendRequest_rseq (s : State) : (sendRequest s).rseq = s.rseq := rfl
@[simp] theorem sendRequest_plen (s : State) : (sendRequest s).plen = s.plen := rfl
@[simp] theorem sendRequest_pbuf (s : State) : (sendRequest s).pbuf = s.pbuf := rfl
@[simp] theorem sendRequest_retried (s : State) : (sendRequest s).retried = s.retried := rfl
@[simp] theorem sendRequest_needsRetry (s : State) : (sendRequest s).needsRetry = s.needsRetry := rfl
@[simp] theorem sendRequest_rxOvr (s : State) : (sendRequest s).rxOvr = s.rxOvr := rfl
@[simp] theorem sendRequest_err (s : State) : (sendRequest s).err = s.err := rfl
@[simp] theorem sendRequest_cfg (s : State) : (sendRequest s).cfg = s.cfg := rfl
@[simp] theorem sendRequest_fsel (s : State) : (sendRequest s).fsel = s.fsel := rfl
@[simp] theorem sendRequest_sumRem (s : State) : (sendRequest s).sumRem = s.sumRem := rfl
@[simp] theorem sendRequest_sumFull (s : State) : (sendRequest s).sumFull = s.sumFull := rfl
@[simp] theorem sendRequest_sumState (s : State) : (sendRequest s).sumState = s.sumState := rfl
@[simp] theorem sendRequest_hcrc (s : State) : (sendRequest s).hcrc = s.hcrc := rfl
@[simp] theorem sendRequest_rxq (s : State) : (sendRequest s).rxq = s.rxq := rfl
@[simp] theorem sendRequest_txq (s : State) : (sendRequest s).txq = s.txq ++ encodeRequest s.desc.tc s.desc.iid s.desc.cid s.seq s.cnt := rfl
@[simp] theorem sendRequest_rxDepth (s : State) : (sendRequest s).rxDepth = s.rxDepth := rfl
@[simp] theorem sendRequest_line (s : State) : (sendRequest s).line = s.line := rfl
@[simp] theorem sendRequest_pending (s : State) : (sendRequest s).pending = s.pending := rfl
@[simp] theorem sendRequest_rdata (s : State) : (sendRequest s).rdata = s.rdata := rfl
@[simp] theorem sendRequest_opr (s : State) : (sendRequest s).opr = s.opr := rfl
@[simp] theorem sendRequest_draws (s : State) : (sendRequest s).draws = s.draws := rfl

@[simp] theorem advanceCounters_st (s : State) : (advanceCounters s).st = s.st := rfl
@[simp] theorem advanceCounters_bc (s : State) : (advanceCounters s).bc = s.bc := rfl
@[simp] theorem advanceCounters_tl (s : State) : (advanceCounters s).tl = s.tl := rfl
@[simp] theorem advanceCounters_retry (s : State) : (advanceCounters s).retry = s.retry := rfl
@[simp] theorem advanceCounters_fb (s : State) : (advanceCounters s).fb = s.fb := rfl
@[simp] theorem advanceCounters_seq (s : State) : (advanceCounters s).seq = s.seq + 1#8 := rfl
@[simp] theorem advanceCounters_cnt (s : State) : (advanceCounters s).cnt = s.cnt + 1#16 := rfl
@[simp] theorem advanceCounters_desc (s : State) : (advanceCounters s).desc = s.desc := rfl
@[simp] theorem advanceCounters_kind (s : State) : (advanceCounters s).kind = s.kind := rfl
@[simp] theorem advanceCounters_rseq (s : State) : (advanceCounters s).rseq = s.rseq := rfl
@[simp] theorem advanceCounters_plen (s : State) : (advanceCounters s).plen = s.plen := rfl
@[simp] theorem advanceCounters_pbuf (s : State) : (advanceCounters s).pbuf = s.pbuf := rfl
@[simp] theorem advanceCounters_retried (s : State) : (advanceCounters s).retried = s.retried := rfl
@[simp] theorem advanceCounters_needsRetry (s : State) : (advanceCounters s).needsRetry = s.needsRetry := rfl
@[simp] theorem advanceCounters_rxOvr (s : State) : (advanceCounters s).rxOvr = s.rxOvr := rfl
@[simp] theorem advanceCounters_err (s : State) : (advanceCounters s).err = s.err := rfl
@[simp] theorem advanceCounters_cfg (s : State) : (advanceCounters s).cfg = s.cfg := rfl
@[simp] theorem advanceCounters_fsel (s : State) : (advanceCounters s).fsel = s.fsel := rfl
@[simp] theorem advanceCounters_sumRem (s : State) : (advanceCounters s).sumRem = s.sumRem := rfl
@[simp] theorem advanceCounters_sumFull (s : State) : (advanceCounters s).sumFull = s.sumFull := rfl
@[simp] theorem advanceCounters_sumState (s : State) : (advanceCounters s).sumState = s.sumState := rfl
@[simp] theorem advanceCounters_hcrc (s : State) : (advanceCounters s).hcrc = s.hcrc := rfl
@[simp] theorem advanceCounters_rxq (s : State) : (advanceCounters s).rxq = s.rxq := rfl
@[simp] theorem advanceCounters_txq (s : State) : (advanceCounters s).txq = s.txq := rfl
@[simp] theorem advanceCounters_rxDepth (s : State) : (advanceCounters s).rxDepth = s.rxDepth := rfl
@[simp] theorem advanceCounters_line (s : State) : (advanceCounters s).line = s.line := rfl
@[simp] theorem advanceCounters_pending (s : State) : (advanceCounters s).pending = s.pending := rfl
@[simp] theorem advanceCounters_rdata (s : State) : (advanceCounters s).rdata = s.rdata := rfl
@[simp] theorem advanceCounters_opr (s : State) : (advanceCounters s).opr = s.opr := rfl
@[simp] theorem advanceCounters_draws (s : State) : (advanceCounters s).draws = s.draws := rfl

@[simp] theorem countPop_st (s : State) : (countPop s).st = s.st := rfl
@[simp] theorem countPop_bc (s : State) : (countPop s).bc = s.bc + 1#9 := rfl
@[simp] theorem countPop_tl (s : State) : (countPop s).tl = s.tl := rfl
@[simp] theorem countPop_retry (s : State) : (countPop s).retry = s.retry := rfl
@[simp] theorem countPop_fb (s : State) : (countPop s).fb = s.fb := rfl
@[simp] theorem countPop_seq (s : State) : (countPop s).seq = s.seq := rfl
@[simp] theorem countPop_cnt (s : State) : (countPop s).cnt = s.cnt := rfl
@[simp] theorem countPop_desc (s : State) : (countPop s).desc = s.desc := rfl
@[simp] theorem countPop_kind (s : State) : (countPop s).kind = s.kind := rfl
@[simp] theorem countPop_rseq (s : State) : (countPop s).rseq = s.rseq := rfl
@[simp] theorem countPop_plen (s : State) : (countPop s).plen = s.plen := rfl
@[simp] theorem countPop_pbuf (s : State) : (countPop s).pbuf = s.pbuf := rfl
@[simp] theorem countPop_retried (s : State) : (countPop s).retried = s.retried := rfl
@[simp] theorem countPop_needsRetry (s : State) : (countPop s).needsRetry = s.needsRetry := rfl
@[simp] theorem countPop_rxOvr (s : State) : (countPop s).rxOvr = s.rxOvr := rfl
@[simp] theorem countPop_err (s : State) : (countPop s).err = s.err := rfl
@[simp] theorem countPop_cfg (s : State) : (countPop s).cfg = s.cfg := rfl
@[simp] theorem countPop_fsel (s : State) : (countPop s).fsel = s.fsel := rfl
@[simp] theorem countPop_sumRem (s : State) : (countPop s).sumRem = s.sumRem := rfl
@[simp] theorem countPop_sumFull (s : State) : (countPop s).sumFull = s.sumFull := rfl
@[simp] theorem countPop_sumState (s : State) : (countPop s).sumState = s.sumState := rfl
@[simp] theorem countPop_hcrc (s : State) : (countPop s).hcrc = s.hcrc := rfl
@[simp] theorem countPop_rxq (s : State) : (countPop s).rxq = s.rxq := rfl
@[simp] theorem countPop_txq (s : State) : (countPop s).txq = s.txq := rfl
@[simp] theorem countPop_rxDepth (s : State) : (countPop s).rxDepth = s.rxDepth := rfl
@[simp] theorem countPop_line (s : State) : (countPop s).line = s.line := rfl
@[simp] theorem countPop_pending (s : State) : (countPop s).pending = s.pending := rfl
@[simp] theorem countPop_rdata (s : State) : (countPop s).rdata = s.rdata := rfl
@[simp] theorem countPop_opr (s : State) : (countPop s).opr = s.opr := rfl
@[simp] theorem countPop_draws (s : State) : (countPop s).draws = s.draws := rfl

@[simp] theorem hostReturns_st (v : Word) (s : State) : (hostReturns v s).st = s.st := rfl
@[simp] theorem hostReturns_bc (v : Word) (s : State) : (hostReturns v s).bc = s.bc := rfl
@[simp] theorem hostReturns_tl (v : Word) (s : State) : (hostReturns v s).tl = s.tl := rfl
@[simp] theorem hostReturns_retry (v : Word) (s : State) : (hostReturns v s).retry = s.retry := rfl
@[simp] theorem hostReturns_fb (v : Word) (s : State) : (hostReturns v s).fb = s.fb := rfl
@[simp] theorem hostReturns_seq (v : Word) (s : State) : (hostReturns v s).seq = s.seq := rfl
@[simp] theorem hostReturns_cnt (v : Word) (s : State) : (hostReturns v s).cnt = s.cnt := rfl
@[simp] theorem hostReturns_desc (v : Word) (s : State) : (hostReturns v s).desc = s.desc := rfl
@[simp] theorem hostReturns_kind (v : Word) (s : State) : (hostReturns v s).kind = s.kind := rfl
@[simp] theorem hostReturns_rseq (v : Word) (s : State) : (hostReturns v s).rseq = s.rseq := rfl
@[simp] theorem hostReturns_plen (v : Word) (s : State) : (hostReturns v s).plen = s.plen := rfl
@[simp] theorem hostReturns_pbuf (v : Word) (s : State) : (hostReturns v s).pbuf = s.pbuf := rfl
@[simp] theorem hostReturns_retried (v : Word) (s : State) : (hostReturns v s).retried = s.retried := rfl
@[simp] theorem hostReturns_needsRetry (v : Word) (s : State) : (hostReturns v s).needsRetry = s.needsRetry := rfl
@[simp] theorem hostReturns_rxOvr (v : Word) (s : State) : (hostReturns v s).rxOvr = s.rxOvr := rfl
@[simp] theorem hostReturns_err (v : Word) (s : State) : (hostReturns v s).err = s.err := rfl
@[simp] theorem hostReturns_cfg (v : Word) (s : State) : (hostReturns v s).cfg = s.cfg := rfl
@[simp] theorem hostReturns_fsel (v : Word) (s : State) : (hostReturns v s).fsel = s.fsel := rfl
@[simp] theorem hostReturns_sumRem (v : Word) (s : State) : (hostReturns v s).sumRem = s.sumRem := rfl
@[simp] theorem hostReturns_sumFull (v : Word) (s : State) : (hostReturns v s).sumFull = s.sumFull := rfl
@[simp] theorem hostReturns_sumState (v : Word) (s : State) : (hostReturns v s).sumState = s.sumState := rfl
@[simp] theorem hostReturns_hcrc (v : Word) (s : State) : (hostReturns v s).hcrc = s.hcrc := rfl
@[simp] theorem hostReturns_rxq (v : Word) (s : State) : (hostReturns v s).rxq = s.rxq := rfl
@[simp] theorem hostReturns_txq (v : Word) (s : State) : (hostReturns v s).txq = s.txq := rfl
@[simp] theorem hostReturns_rxDepth (v : Word) (s : State) : (hostReturns v s).rxDepth = s.rxDepth := rfl
@[simp] theorem hostReturns_line (v : Word) (s : State) : (hostReturns v s).line = s.line := rfl
@[simp] theorem hostReturns_pending (v : Word) (s : State) : (hostReturns v s).pending = s.pending := rfl
@[simp] theorem hostReturns_rdata (v : Word) (s : State) : (hostReturns v s).rdata = v := rfl
@[simp] theorem hostReturns_opr (v : Word) (s : State) : (hostReturns v s).opr = s.opr := rfl
@[simp] theorem hostReturns_draws (v : Word) (s : State) : (hostReturns v s).draws = s.draws := rfl

@[simp] theorem opReturns_st (r : OpResult) (s : State) : (opReturns r s).st = s.st := rfl
@[simp] theorem opReturns_bc (r : OpResult) (s : State) : (opReturns r s).bc = s.bc := rfl
@[simp] theorem opReturns_tl (r : OpResult) (s : State) : (opReturns r s).tl = s.tl := rfl
@[simp] theorem opReturns_retry (r : OpResult) (s : State) : (opReturns r s).retry = s.retry := rfl
@[simp] theorem opReturns_fb (r : OpResult) (s : State) : (opReturns r s).fb = s.fb := rfl
@[simp] theorem opReturns_seq (r : OpResult) (s : State) : (opReturns r s).seq = s.seq := rfl
@[simp] theorem opReturns_cnt (r : OpResult) (s : State) : (opReturns r s).cnt = s.cnt := rfl
@[simp] theorem opReturns_desc (r : OpResult) (s : State) : (opReturns r s).desc = s.desc := rfl
@[simp] theorem opReturns_kind (r : OpResult) (s : State) : (opReturns r s).kind = s.kind := rfl
@[simp] theorem opReturns_rseq (r : OpResult) (s : State) : (opReturns r s).rseq = s.rseq := rfl
@[simp] theorem opReturns_plen (r : OpResult) (s : State) : (opReturns r s).plen = s.plen := rfl
@[simp] theorem opReturns_pbuf (r : OpResult) (s : State) : (opReturns r s).pbuf = s.pbuf := rfl
@[simp] theorem opReturns_retried (r : OpResult) (s : State) : (opReturns r s).retried = s.retried := rfl
@[simp] theorem opReturns_needsRetry (r : OpResult) (s : State) : (opReturns r s).needsRetry = s.needsRetry := rfl
@[simp] theorem opReturns_rxOvr (r : OpResult) (s : State) : (opReturns r s).rxOvr = s.rxOvr := rfl
@[simp] theorem opReturns_err (r : OpResult) (s : State) : (opReturns r s).err = s.err := rfl
@[simp] theorem opReturns_cfg (r : OpResult) (s : State) : (opReturns r s).cfg = s.cfg := rfl
@[simp] theorem opReturns_fsel (r : OpResult) (s : State) : (opReturns r s).fsel = s.fsel := rfl
@[simp] theorem opReturns_sumRem (r : OpResult) (s : State) : (opReturns r s).sumRem = s.sumRem := rfl
@[simp] theorem opReturns_sumFull (r : OpResult) (s : State) : (opReturns r s).sumFull = s.sumFull := rfl
@[simp] theorem opReturns_sumState (r : OpResult) (s : State) : (opReturns r s).sumState = s.sumState := rfl
@[simp] theorem opReturns_hcrc (r : OpResult) (s : State) : (opReturns r s).hcrc = s.hcrc := rfl
@[simp] theorem opReturns_rxq (r : OpResult) (s : State) : (opReturns r s).rxq = s.rxq := rfl
@[simp] theorem opReturns_txq (r : OpResult) (s : State) : (opReturns r s).txq = s.txq := rfl
@[simp] theorem opReturns_rxDepth (r : OpResult) (s : State) : (opReturns r s).rxDepth = s.rxDepth := rfl
@[simp] theorem opReturns_line (r : OpResult) (s : State) : (opReturns r s).line = s.line := rfl
@[simp] theorem opReturns_pending (r : OpResult) (s : State) : (opReturns r s).pending = s.pending := rfl
@[simp] theorem opReturns_rdata (r : OpResult) (s : State) : (opReturns r s).rdata = s.rdata := rfl
@[simp] theorem opReturns_opr (r : OpResult) (s : State) : (opReturns r s).opr = r := rfl
@[simp] theorem opReturns_draws (r : OpResult) (s : State) : (opReturns r s).draws = s.draws := rfl

@[simp] theorem commandHcrcInit_st (s : State) : (commandHcrcInit s).st = s.st := rfl
@[simp] theorem commandHcrcInit_bc (s : State) : (commandHcrcInit s).bc = s.bc := rfl
@[simp] theorem commandHcrcInit_tl (s : State) : (commandHcrcInit s).tl = s.tl := rfl
@[simp] theorem commandHcrcInit_retry (s : State) : (commandHcrcInit s).retry = s.retry := rfl
@[simp] theorem commandHcrcInit_fb (s : State) : (commandHcrcInit s).fb = s.fb := rfl
@[simp] theorem commandHcrcInit_seq (s : State) : (commandHcrcInit s).seq = s.seq := rfl
@[simp] theorem commandHcrcInit_cnt (s : State) : (commandHcrcInit s).cnt = s.cnt := rfl
@[simp] theorem commandHcrcInit_desc (s : State) : (commandHcrcInit s).desc = s.desc := rfl
@[simp] theorem commandHcrcInit_kind (s : State) : (commandHcrcInit s).kind = s.kind := rfl
@[simp] theorem commandHcrcInit_rseq (s : State) : (commandHcrcInit s).rseq = s.rseq := rfl
@[simp] theorem commandHcrcInit_plen (s : State) : (commandHcrcInit s).plen = s.plen := rfl
@[simp] theorem commandHcrcInit_pbuf (s : State) : (commandHcrcInit s).pbuf = s.pbuf := rfl
@[simp] theorem commandHcrcInit_retried (s : State) : (commandHcrcInit s).retried = s.retried := rfl
@[simp] theorem commandHcrcInit_needsRetry (s : State) : (commandHcrcInit s).needsRetry = s.needsRetry := rfl
@[simp] theorem commandHcrcInit_rxOvr (s : State) : (commandHcrcInit s).rxOvr = s.rxOvr := rfl
@[simp] theorem commandHcrcInit_err (s : State) : (commandHcrcInit s).err = s.err := rfl
@[simp] theorem commandHcrcInit_cfg (s : State) : (commandHcrcInit s).cfg = s.cfg := rfl
@[simp] theorem commandHcrcInit_fsel (s : State) : (commandHcrcInit s).fsel = s.fsel := rfl
@[simp] theorem commandHcrcInit_sumRem (s : State) : (commandHcrcInit s).sumRem = s.sumRem := rfl
@[simp] theorem commandHcrcInit_sumFull (s : State) : (commandHcrcInit s).sumFull = s.sumFull := rfl
@[simp] theorem commandHcrcInit_sumState (s : State) : (commandHcrcInit s).sumState = s.sumState := rfl
@[simp] theorem commandHcrcInit_hcrc (s : State) : (commandHcrcInit s).hcrc = crcInit := rfl
@[simp] theorem commandHcrcInit_rxq (s : State) : (commandHcrcInit s).rxq = s.rxq := rfl
@[simp] theorem commandHcrcInit_txq (s : State) : (commandHcrcInit s).txq = s.txq := rfl
@[simp] theorem commandHcrcInit_rxDepth (s : State) : (commandHcrcInit s).rxDepth = s.rxDepth := rfl
@[simp] theorem commandHcrcInit_line (s : State) : (commandHcrcInit s).line = s.line := rfl
@[simp] theorem commandHcrcInit_pending (s : State) : (commandHcrcInit s).pending = s.pending := rfl
@[simp] theorem commandHcrcInit_rdata (s : State) : (commandHcrcInit s).rdata = s.rdata := rfl
@[simp] theorem commandHcrcInit_opr (s : State) : (commandHcrcInit s).opr = s.opr := rfl
@[simp] theorem commandHcrcInit_draws (s : State) : (commandHcrcInit s).draws = s.draws := rfl

@[simp] theorem withMove_st (m : List Byte) (s : State) : (withMove m s).st = s.st := rfl
@[simp] theorem withMove_bc (m : List Byte) (s : State) : (withMove m s).bc = s.bc := rfl
@[simp] theorem withMove_tl (m : List Byte) (s : State) : (withMove m s).tl = s.tl := rfl
@[simp] theorem withMove_retry (m : List Byte) (s : State) : (withMove m s).retry = s.retry := rfl
@[simp] theorem withMove_fb (m : List Byte) (s : State) : (withMove m s).fb = s.fb := rfl
@[simp] theorem withMove_seq (m : List Byte) (s : State) : (withMove m s).seq = s.seq := rfl
@[simp] theorem withMove_cnt (m : List Byte) (s : State) : (withMove m s).cnt = s.cnt := rfl
@[simp] theorem withMove_desc (m : List Byte) (s : State) : (withMove m s).desc = s.desc := rfl
@[simp] theorem withMove_kind (m : List Byte) (s : State) : (withMove m s).kind = s.kind := rfl
@[simp] theorem withMove_rseq (m : List Byte) (s : State) : (withMove m s).rseq = s.rseq := rfl
@[simp] theorem withMove_plen (m : List Byte) (s : State) : (withMove m s).plen = s.plen := rfl
@[simp] theorem withMove_pbuf (m : List Byte) (s : State) : (withMove m s).pbuf = s.pbuf := rfl
@[simp] theorem withMove_retried (m : List Byte) (s : State) : (withMove m s).retried = s.retried := rfl
@[simp] theorem withMove_needsRetry (m : List Byte) (s : State) : (withMove m s).needsRetry = s.needsRetry := rfl
@[simp] theorem withMove_rxOvr (m : List Byte) (s : State) : (withMove m s).rxOvr = s.rxOvr := rfl
@[simp] theorem withMove_err (m : List Byte) (s : State) : (withMove m s).err = s.err := rfl
@[simp] theorem withMove_cfg (m : List Byte) (s : State) : (withMove m s).cfg = s.cfg := rfl
@[simp] theorem withMove_fsel (m : List Byte) (s : State) : (withMove m s).fsel = s.fsel := rfl
@[simp] theorem withMove_sumRem (m : List Byte) (s : State) : (withMove m s).sumRem = s.sumRem := rfl
@[simp] theorem withMove_sumFull (m : List Byte) (s : State) : (withMove m s).sumFull = s.sumFull := rfl
@[simp] theorem withMove_sumState (m : List Byte) (s : State) : (withMove m s).sumState = s.sumState := rfl
@[simp] theorem withMove_hcrc (m : List Byte) (s : State) : (withMove m s).hcrc = s.hcrc := rfl
@[simp] theorem withMove_rxq (m : List Byte) (s : State) : (withMove m s).rxq = s.rxq := rfl
@[simp] theorem withMove_txq (m : List Byte) (s : State) : (withMove m s).txq = s.txq := rfl
@[simp] theorem withMove_rxDepth (m : List Byte) (s : State) : (withMove m s).rxDepth = s.rxDepth := rfl
@[simp] theorem withMove_line (m : List Byte) (s : State) : (withMove m s).line = s.line := rfl
@[simp] theorem withMove_pending (m : List Byte) (s : State) : (withMove m s).pending = m :: s.pending := rfl
@[simp] theorem withMove_rdata (m : List Byte) (s : State) : (withMove m s).rdata = s.rdata := rfl
@[simp] theorem withMove_opr (m : List Byte) (s : State) : (withMove m s).opr = s.opr := rfl
@[simp] theorem withMove_draws (m : List Byte) (s : State) : (withMove m s).draws = s.draws := rfl

@[simp] theorem resetKeeping_st (s : State) : (resetKeeping s).st = State.reset.st := rfl
@[simp] theorem resetKeeping_bc (s : State) : (resetKeeping s).bc = State.reset.bc := rfl
@[simp] theorem resetKeeping_tl (s : State) : (resetKeeping s).tl = State.reset.tl := rfl
@[simp] theorem resetKeeping_retry (s : State) : (resetKeeping s).retry = State.reset.retry := rfl
@[simp] theorem resetKeeping_fb (s : State) : (resetKeeping s).fb = State.reset.fb := rfl
@[simp] theorem resetKeeping_seq (s : State) : (resetKeeping s).seq = State.reset.seq := rfl
@[simp] theorem resetKeeping_cnt (s : State) : (resetKeeping s).cnt = State.reset.cnt := rfl
@[simp] theorem resetKeeping_desc (s : State) : (resetKeeping s).desc = State.reset.desc := rfl
@[simp] theorem resetKeeping_kind (s : State) : (resetKeeping s).kind = State.reset.kind := rfl
@[simp] theorem resetKeeping_rseq (s : State) : (resetKeeping s).rseq = State.reset.rseq := rfl
@[simp] theorem resetKeeping_plen (s : State) : (resetKeeping s).plen = State.reset.plen := rfl
@[simp] theorem resetKeeping_pbuf (s : State) : (resetKeeping s).pbuf = State.reset.pbuf := rfl
@[simp] theorem resetKeeping_retried (s : State) : (resetKeeping s).retried = State.reset.retried := rfl
@[simp] theorem resetKeeping_needsRetry (s : State) : (resetKeeping s).needsRetry = State.reset.needsRetry := rfl
@[simp] theorem resetKeeping_rxOvr (s : State) : (resetKeeping s).rxOvr = State.reset.rxOvr := rfl
@[simp] theorem resetKeeping_err (s : State) : (resetKeeping s).err = State.reset.err := rfl
@[simp] theorem resetKeeping_cfg (s : State) : (resetKeeping s).cfg = State.reset.cfg := rfl
@[simp] theorem resetKeeping_fsel (s : State) : (resetKeeping s).fsel = State.reset.fsel := rfl
@[simp] theorem resetKeeping_sumRem (s : State) : (resetKeeping s).sumRem = State.reset.sumRem := rfl
@[simp] theorem resetKeeping_sumFull (s : State) : (resetKeeping s).sumFull = State.reset.sumFull := rfl
@[simp] theorem resetKeeping_sumState (s : State) : (resetKeeping s).sumState = State.reset.sumState := rfl
@[simp] theorem resetKeeping_hcrc (s : State) : (resetKeeping s).hcrc = State.reset.hcrc := rfl
@[simp] theorem resetKeeping_rxq (s : State) : (resetKeeping s).rxq = State.reset.rxq := rfl
@[simp] theorem resetKeeping_txq (s : State) : (resetKeeping s).txq = State.reset.txq := rfl
@[simp] theorem resetKeeping_rxDepth (s : State) : (resetKeeping s).rxDepth = s.rxDepth := rfl
@[simp] theorem resetKeeping_line (s : State) : (resetKeeping s).line = s.line := rfl
@[simp] theorem resetKeeping_pending (s : State) : (resetKeeping s).pending = s.pending := rfl
@[simp] theorem resetKeeping_rdata (s : State) : (resetKeeping s).rdata = s.rdata := rfl
@[simp] theorem resetKeeping_opr (s : State) : (resetKeeping s).opr = s.opr := rfl
@[simp] theorem resetKeeping_draws (s : State) : (resetKeeping s).draws = s.draws := rfl

@[simp] theorem rxArrive_st (b : Byte) (s : State) : (rxArrive b s).st = s.st := by
  unfold rxArrive; split <;> [rfl; (split <;> rfl)]
@[simp] theorem rxArrive_bc (b : Byte) (s : State) : (rxArrive b s).bc = s.bc := by
  unfold rxArrive; split <;> [rfl; (split <;> rfl)]
@[simp] theorem rxArrive_tl (b : Byte) (s : State) : (rxArrive b s).tl = s.tl := by
  unfold rxArrive; split <;> [rfl; (split <;> rfl)]
@[simp] theorem rxArrive_retry (b : Byte) (s : State) : (rxArrive b s).retry = s.retry := by
  unfold rxArrive; split <;> [rfl; (split <;> rfl)]
@[simp] theorem rxArrive_fb (b : Byte) (s : State) : (rxArrive b s).fb = s.fb := by
  unfold rxArrive; split <;> [rfl; (split <;> rfl)]
@[simp] theorem rxArrive_seq (b : Byte) (s : State) : (rxArrive b s).seq = s.seq := by
  unfold rxArrive; split <;> [rfl; (split <;> rfl)]
@[simp] theorem rxArrive_cnt (b : Byte) (s : State) : (rxArrive b s).cnt = s.cnt := by
  unfold rxArrive; split <;> [rfl; (split <;> rfl)]
@[simp] theorem rxArrive_desc (b : Byte) (s : State) : (rxArrive b s).desc = s.desc := by
  unfold rxArrive; split <;> [rfl; (split <;> rfl)]
@[simp] theorem rxArrive_kind (b : Byte) (s : State) : (rxArrive b s).kind = s.kind := by
  unfold rxArrive; split <;> [rfl; (split <;> rfl)]
@[simp] theorem rxArrive_rseq (b : Byte) (s : State) : (rxArrive b s).rseq = s.rseq := by
  unfold rxArrive; split <;> [rfl; (split <;> rfl)]
@[simp] theorem rxArrive_plen (b : Byte) (s : State) : (rxArrive b s).plen = s.plen := by
  unfold rxArrive; split <;> [rfl; (split <;> rfl)]
@[simp] theorem rxArrive_pbuf (b : Byte) (s : State) : (rxArrive b s).pbuf = s.pbuf := by
  unfold rxArrive; split <;> [rfl; (split <;> rfl)]
@[simp] theorem rxArrive_retried (b : Byte) (s : State) : (rxArrive b s).retried = s.retried := by
  unfold rxArrive; split <;> [rfl; (split <;> rfl)]
@[simp] theorem rxArrive_needsRetry (b : Byte) (s : State) : (rxArrive b s).needsRetry = s.needsRetry := by
  unfold rxArrive; split <;> [rfl; (split <;> rfl)]
@[simp] theorem rxArrive_err (b : Byte) (s : State) : (rxArrive b s).err = s.err := by
  unfold rxArrive; split <;> [rfl; (split <;> rfl)]
@[simp] theorem rxArrive_cfg (b : Byte) (s : State) : (rxArrive b s).cfg = s.cfg := by
  unfold rxArrive; split <;> [rfl; (split <;> rfl)]
@[simp] theorem rxArrive_fsel (b : Byte) (s : State) : (rxArrive b s).fsel = s.fsel := by
  unfold rxArrive; split <;> [rfl; (split <;> rfl)]
@[simp] theorem rxArrive_sumRem (b : Byte) (s : State) : (rxArrive b s).sumRem = s.sumRem := by
  unfold rxArrive; split <;> [rfl; (split <;> rfl)]
@[simp] theorem rxArrive_sumFull (b : Byte) (s : State) : (rxArrive b s).sumFull = s.sumFull := by
  unfold rxArrive; split <;> [rfl; (split <;> rfl)]
@[simp] theorem rxArrive_sumState (b : Byte) (s : State) : (rxArrive b s).sumState = s.sumState := by
  unfold rxArrive; split <;> [rfl; (split <;> rfl)]
@[simp] theorem rxArrive_hcrc (b : Byte) (s : State) : (rxArrive b s).hcrc = s.hcrc := by
  unfold rxArrive; split <;> [rfl; (split <;> rfl)]
@[simp] theorem rxArrive_txq (b : Byte) (s : State) : (rxArrive b s).txq = s.txq := by
  unfold rxArrive; split <;> [rfl; (split <;> rfl)]
@[simp] theorem rxArrive_rxDepth (b : Byte) (s : State) : (rxArrive b s).rxDepth = s.rxDepth := by
  unfold rxArrive; split <;> [rfl; (split <;> rfl)]
@[simp] theorem rxArrive_line (b : Byte) (s : State) : (rxArrive b s).line = s.line := by
  unfold rxArrive; split <;> [rfl; (split <;> rfl)]
@[simp] theorem rxArrive_pending (b : Byte) (s : State) : (rxArrive b s).pending = s.pending := by
  unfold rxArrive; split <;> [rfl; (split <;> rfl)]
@[simp] theorem rxArrive_rdata (b : Byte) (s : State) : (rxArrive b s).rdata = s.rdata := by
  unfold rxArrive; split <;> [rfl; (split <;> rfl)]
@[simp] theorem rxArrive_opr (b : Byte) (s : State) : (rxArrive b s).opr = s.opr := by
  unfold rxArrive; split <;> [rfl; (split <;> rfl)]
@[simp] theorem rxArrive_draws (b : Byte) (s : State) : (rxArrive b s).draws = s.draws := by
  unfold rxArrive; split <;> [rfl; (split <;> rfl)]

@[simp] theorem txConsume_st (s : State) : (txConsume s).st = s.st := by
  unfold txConsume; split <;> rfl
@[simp] theorem txConsume_bc (s : State) : (txConsume s).bc = s.bc := by
  unfold txConsume; split <;> rfl
@[simp] theorem txConsume_tl (s : State) : (txConsume s).tl = s.tl := by
  unfold txConsume; split <;> rfl
@[simp] theorem txConsume_retry (s : State) : (txConsume s).retry = s.retry := by
  unfold txConsume; split <;> rfl
@[simp] theorem txConsume_fb (s : State) : (txConsume s).fb = s.fb := by
  unfold txConsume; split <;> rfl
@[simp] theorem txConsume_seq (s : State) : (txConsume s).seq = s.seq := by
  unfold txConsume; split <;> rfl
@[simp] theorem txConsume_cnt (s : State) : (txConsume s).cnt = s.cnt := by
  unfold txConsume; split <;> rfl
@[simp] theorem txConsume_desc (s : State) : (txConsume s).desc = s.desc := by
  unfold txConsume; split <;> rfl
@[simp] theorem txConsume_kind (s : State) : (txConsume s).kind = s.kind := by
  unfold txConsume; split <;> rfl
@[simp] theorem txConsume_rseq (s : State) : (txConsume s).rseq = s.rseq := by
  unfold txConsume; split <;> rfl
@[simp] theorem txConsume_plen (s : State) : (txConsume s).plen = s.plen := by
  unfold txConsume; split <;> rfl
@[simp] theorem txConsume_pbuf (s : State) : (txConsume s).pbuf = s.pbuf := by
  unfold txConsume; split <;> rfl
@[simp] theorem txConsume_retried (s : State) : (txConsume s).retried = s.retried := by
  unfold txConsume; split <;> rfl
@[simp] theorem txConsume_needsRetry (s : State) : (txConsume s).needsRetry = s.needsRetry := by
  unfold txConsume; split <;> rfl
@[simp] theorem txConsume_rxOvr (s : State) : (txConsume s).rxOvr = s.rxOvr := by
  unfold txConsume; split <;> rfl
@[simp] theorem txConsume_err (s : State) : (txConsume s).err = s.err := by
  unfold txConsume; split <;> rfl
@[simp] theorem txConsume_cfg (s : State) : (txConsume s).cfg = s.cfg := by
  unfold txConsume; split <;> rfl
@[simp] theorem txConsume_fsel (s : State) : (txConsume s).fsel = s.fsel := by
  unfold txConsume; split <;> rfl
@[simp] theorem txConsume_sumRem (s : State) : (txConsume s).sumRem = s.sumRem := by
  unfold txConsume; split <;> rfl
@[simp] theorem txConsume_sumFull (s : State) : (txConsume s).sumFull = s.sumFull := by
  unfold txConsume; split <;> rfl
@[simp] theorem txConsume_sumState (s : State) : (txConsume s).sumState = s.sumState := by
  unfold txConsume; split <;> rfl
@[simp] theorem txConsume_hcrc (s : State) : (txConsume s).hcrc = s.hcrc := by
  unfold txConsume; split <;> rfl
@[simp] theorem txConsume_rxq (s : State) : (txConsume s).rxq = s.rxq := by
  unfold txConsume; split <;> rfl
@[simp] theorem txConsume_rxDepth (s : State) : (txConsume s).rxDepth = s.rxDepth := by
  unfold txConsume; split <;> rfl
@[simp] theorem txConsume_pending (s : State) : (txConsume s).pending = s.pending := by
  unfold txConsume; split <;> rfl
@[simp] theorem txConsume_rdata (s : State) : (txConsume s).rdata = s.rdata := by
  unfold txConsume; split <;> rfl
@[simp] theorem txConsume_opr (s : State) : (txConsume s).opr = s.opr := by
  unfold txConsume; split <;> rfl
@[simp] theorem txConsume_draws (s : State) : (txConsume s).draws = s.draws := by
  unfold txConsume; split <;> rfl

@[simp] theorem commandClr_bc (s : State) : (commandClr s).bc = s.bc := by
  unfold commandClr; split <;> [rfl; (split <;> rfl)]
@[simp] theorem commandClr_tl (s : State) : (commandClr s).tl = s.tl := by
  unfold commandClr; split <;> [rfl; (split <;> rfl)]
@[simp] theorem commandClr_retry (s : State) : (commandClr s).retry = s.retry := by
  unfold commandClr; split <;> [rfl; (split <;> rfl)]
@[simp] theorem commandClr_fb (s : State) : (commandClr s).fb = s.fb := by
  unfold commandClr; split <;> [rfl; (split <;> rfl)]
@[simp] theorem commandClr_seq (s : State) : (commandClr s).seq = s.seq := by
  unfold commandClr; split <;> [rfl; (split <;> rfl)]
@[simp] theorem commandClr_cnt (s : State) : (commandClr s).cnt = s.cnt := by
  unfold commandClr; split <;> [rfl; (split <;> rfl)]
@[simp] theorem commandClr_desc (s : State) : (commandClr s).desc = s.desc := by
  unfold commandClr; split <;> [rfl; (split <;> rfl)]
@[simp] theorem commandClr_kind (s : State) : (commandClr s).kind = s.kind := by
  unfold commandClr; split <;> [rfl; (split <;> rfl)]
@[simp] theorem commandClr_rseq (s : State) : (commandClr s).rseq = s.rseq := by
  unfold commandClr; split <;> [rfl; (split <;> rfl)]
@[simp] theorem commandClr_plen (s : State) : (commandClr s).plen = s.plen := by
  unfold commandClr; split <;> [rfl; (split <;> rfl)]
@[simp] theorem commandClr_pbuf (s : State) : (commandClr s).pbuf = s.pbuf := by
  unfold commandClr; split <;> [rfl; (split <;> rfl)]
@[simp] theorem commandClr_cfg (s : State) : (commandClr s).cfg = s.cfg := by
  unfold commandClr; split <;> [rfl; (split <;> rfl)]
@[simp] theorem commandClr_fsel (s : State) : (commandClr s).fsel = s.fsel := by
  unfold commandClr; split <;> [rfl; (split <;> rfl)]
@[simp] theorem commandClr_sumRem (s : State) : (commandClr s).sumRem = s.sumRem := by
  unfold commandClr; split <;> [rfl; (split <;> rfl)]
@[simp] theorem commandClr_sumFull (s : State) : (commandClr s).sumFull = s.sumFull := by
  unfold commandClr; split <;> [rfl; (split <;> rfl)]
@[simp] theorem commandClr_sumState (s : State) : (commandClr s).sumState = s.sumState := by
  unfold commandClr; split <;> [rfl; (split <;> rfl)]
@[simp] theorem commandClr_hcrc (s : State) : (commandClr s).hcrc = s.hcrc := by
  unfold commandClr; split <;> [rfl; (split <;> rfl)]
@[simp] theorem commandClr_rxq (s : State) : (commandClr s).rxq = s.rxq := by
  unfold commandClr; split <;> [rfl; (split <;> rfl)]
@[simp] theorem commandClr_txq (s : State) : (commandClr s).txq = s.txq := by
  unfold commandClr; split <;> [rfl; (split <;> rfl)]
@[simp] theorem commandClr_rxDepth (s : State) : (commandClr s).rxDepth = s.rxDepth := by
  unfold commandClr; split <;> [rfl; (split <;> rfl)]
@[simp] theorem commandClr_line (s : State) : (commandClr s).line = s.line := by
  unfold commandClr; split <;> [rfl; (split <;> rfl)]
@[simp] theorem commandClr_pending (s : State) : (commandClr s).pending = s.pending := by
  unfold commandClr; split <;> [rfl; (split <;> rfl)]
@[simp] theorem commandClr_rdata (s : State) : (commandClr s).rdata = s.rdata := by
  unfold commandClr; split <;> [rfl; (split <;> rfl)]
@[simp] theorem commandClr_opr (s : State) : (commandClr s).opr = s.opr := by
  unfold commandClr; split <;> [rfl; (split <;> rfl)]
@[simp] theorem commandClr_draws (s : State) : (commandClr s).draws = s.draws := by
  unfold commandClr; split <;> [rfl; (split <;> rfl)]

@[simp] theorem commandStart_fb (s : State) : (commandStart s).fb = s.fb := by
  unfold commandStart; split <;> rfl
@[simp] theorem commandStart_seq (s : State) : (commandStart s).seq = s.seq := by
  unfold commandStart; split <;> rfl
@[simp] theorem commandStart_cnt (s : State) : (commandStart s).cnt = s.cnt := by
  unfold commandStart; split <;> rfl
@[simp] theorem commandStart_desc (s : State) : (commandStart s).desc = s.desc := by
  unfold commandStart; split <;> rfl
@[simp] theorem commandStart_kind (s : State) : (commandStart s).kind = s.kind := by
  unfold commandStart; split <;> rfl
@[simp] theorem commandStart_rseq (s : State) : (commandStart s).rseq = s.rseq := by
  unfold commandStart; split <;> rfl
@[simp] theorem commandStart_plen (s : State) : (commandStart s).plen = s.plen := by
  unfold commandStart; split <;> rfl
@[simp] theorem commandStart_pbuf (s : State) : (commandStart s).pbuf = s.pbuf := by
  unfold commandStart; split <;> rfl
@[simp] theorem commandStart_rxOvr (s : State) : (commandStart s).rxOvr = s.rxOvr := by
  unfold commandStart; split <;> rfl
@[simp] theorem commandStart_cfg (s : State) : (commandStart s).cfg = s.cfg := by
  unfold commandStart; split <;> rfl
@[simp] theorem commandStart_fsel (s : State) : (commandStart s).fsel = s.fsel := by
  unfold commandStart; split <;> rfl
@[simp] theorem commandStart_sumRem (s : State) : (commandStart s).sumRem = s.sumRem := by
  unfold commandStart; split <;> rfl
@[simp] theorem commandStart_sumFull (s : State) : (commandStart s).sumFull = s.sumFull := by
  unfold commandStart; split <;> rfl
@[simp] theorem commandStart_sumState (s : State) : (commandStart s).sumState = s.sumState := by
  unfold commandStart; split <;> rfl
@[simp] theorem commandStart_hcrc (s : State) : (commandStart s).hcrc = s.hcrc := by
  unfold commandStart; split <;> rfl
@[simp] theorem commandStart_rxq (s : State) : (commandStart s).rxq = s.rxq := by
  unfold commandStart; split <;> rfl
@[simp] theorem commandStart_txq (s : State) : (commandStart s).txq = s.txq := by
  unfold commandStart; split <;> rfl
@[simp] theorem commandStart_rxDepth (s : State) : (commandStart s).rxDepth = s.rxDepth := by
  unfold commandStart; split <;> rfl
@[simp] theorem commandStart_line (s : State) : (commandStart s).line = s.line := by
  unfold commandStart; split <;> rfl
@[simp] theorem commandStart_pending (s : State) : (commandStart s).pending = s.pending := by
  unfold commandStart; split <;> rfl
@[simp] theorem commandStart_rdata (s : State) : (commandStart s).rdata = s.rdata := by
  unfold commandStart; split <;> rfl
@[simp] theorem commandStart_opr (s : State) : (commandStart s).opr = s.opr := by
  unfold commandStart; split <;> rfl
@[simp] theorem commandStart_draws (s : State) : (commandStart s).draws = s.draws := by
  unfold commandStart; split <;> rfl

end Sys2Proof.Machine
end

