-- ==== Sys2Proof/Laws/Ops.lean ====
section
/-! SUPPORT. For each shared operation, once, everything it can do. -/

namespace Sys2Proof.Machine

theorem storePopped_eq_some {b : Byte} {q : List Byte} {s t : State} (h : storePopped b q s = some t) :
    s.bc.toNat < Config.frameMax ∧ t = { s with rxq := q, fb := Memory.write s.fb s.bc.toNat b } := by
  unfold storePopped at h
  split at h
  · rename_i hb; exact ⟨hb, by simpa using h.symm⟩
  · cases h

/-- What a pop can do: nothing on an empty queue; else take the head, store it, and go on; or fault outside `FB`. -/
theorem enginePop_cases (f : Byte → State → State) (s : State) :
    (s.rxq = [] ∧ enginePop f s = .next s) ∨
    (∃ b q, s.rxq = b :: q ∧ s.bc.toNat < Config.frameMax ∧
      enginePop f s = .next (f b { s with rxq := q, fb := Memory.write s.fb s.bc.toNat b })) ∨
    (s.rxq ≠ [] ∧ Config.frameMax ≤ s.bc.toNat ∧ enginePop f s = .fault .fbOutOfRange) := by
  unfold enginePop storePopped
  cases h : s.rxq with
  | nil => exact .inl ⟨rfl, rfl⟩
  | cons b q =>
    by_cases hb : s.bc.toNat < Config.frameMax
    · exact .inr (.inl ⟨b, q, rfl, hb, by simp [hb]⟩)
    · exact .inr (.inr ⟨by simp, by omega, by simp [hb]⟩)

/-- A pop that answers a next state. -/
theorem enginePop_next {f : Byte → State → State} {s t : State} (h : enginePop f s = .next t) :
    (s.rxq = [] ∧ t = s) ∨
    (∃ b q, s.rxq = b :: q ∧ s.bc.toNat < Config.frameMax ∧
      t = f b { s with rxq := q, fb := Memory.write s.fb s.bc.toNat b }) := by
  rcases enginePop_cases f s with ⟨h1, h2⟩ | ⟨b, q, h1, h2, h3⟩ | ⟨_, _, h3⟩
  · rw [h2] at h; exact .inl ⟨h1, by cases h; rfl⟩
  · rw [h3] at h; exact .inr ⟨b, q, h1, h2, by cases h; rfl⟩
  · rw [h3] at h; cases h

theorem whenEnabled_next {g : Bool} {o : Host.Outcome State Fault Refusal} {s t : State}
    (h : whenEnabled g o s = .next t) : (g = true ∧ o = .next t) ∨ (g = false ∧ t = s) := by
  unfold whenEnabled at h
  cases g
  · exact .inr ⟨rfl, by simpa using h.symm⟩
  · exact .inl ⟨rfl, by simpa using h⟩

@[simp] theorem whenEnabled_true (o : Host.Outcome State Fault Refusal) (s : State) : whenEnabled true o s = o := rfl

@[simp] theorem whenEnabled_false (o : Host.Outcome State Fault Refusal) (s : State) :
    whenEnabled false o s = .next s := rfl

/-- Everything the drain pop can do after it has stored its byte: fault entry, count, or drop the frame. -/
theorem drainAfterStore_cases (b : Byte) (s : State) :
    (s.bc + 1#9 = 3#9 ∧ classifyShape (fbByte s 0) (fbByte s 1) b = none ∧
      drainAfterStore b s = raiseFault .protocolDesync { s with bc := 3#9 }) ∨
    (s.bc + 1#9 = 3#9 ∧ ∃ x, classifyShape (fbByte s 0) (fbByte s 1) b = some x ∧
      drainAfterStore b s =
        { s with bc := 3#9, tl := match x with | .ack => 10#9 | .ctl => 25#9 | .rsp => 0#9 }) ∨
    (s.bc + 1#9 ≠ 3#9 ∧ ∃ l,
      l = (if s.bc + 1#9 = 4#9 ∧ classifyShape (fbByte s 0) (fbByte s 1) (fbByte s 2) = some .rsp then frameLength b
        else s.tl) ∧
      drainAfterStore b s =
        if l ≠ 0#9 ∧ s.bc + 1#9 = l then { s with bc := 0#9, tl := 0#9 } else { s with bc := s.bc + 1#9, tl := l }) := by
  unfold drainAfterStore
  by_cases h3 : s.bc + 1#9 = 3#9
  · cases hc : classifyShape (fbByte s 0) (fbByte s 1) b with
    | none => exact .inl ⟨h3, rfl, by simp [h3]⟩
    | some x =>
      refine .inr (.inl ⟨h3, x, rfl, ?_⟩)
      cases x <;> simp [h3]
  · exact .inr (.inr ⟨h3, _, rfl, by simp [h3]⟩)

/-- Everything the acknowledgement outcome can do (R217). -/
theorem ackOutcome_cases (s : State) :
    (∃ k, parseAck (fbByte s) s.seq = .error k ∧ ackOutcome s = raiseFault k s) ∨
    (∃ r, parseAck (fbByte s) s.seq = .ok r ∧
      ((needsRetryOf r.type = false ∧
          ackOutcome s = { s with needsRetry := false, st := .awaitRsp, bc := 0#9, tl := 0#9 }) ∨
       (needsRetryOf r.type = true ∧ s.retry = false ∧
          ackOutcome s = { s with needsRetry := true, st := .retrying }) ∨
       (needsRetryOf r.type = true ∧ s.retry = true ∧
          ackOutcome s = abortEntry { s with needsRetry := true }))) := by
  unfold ackOutcome
  cases hp : parseAck (fbByte s) s.seq with
  | error k => exact .inl ⟨k, rfl, rfl⟩
  | ok r =>
    refine .inr ⟨r, rfl, ?_⟩
    cases hn : needsRetryOf r.type
    · exact .inl ⟨rfl, by simp [hn]⟩
    · cases hr : s.retry
      · exact .inr (.inl ⟨rfl, rfl, by simp [hn]⟩)
      · exact .inr (.inr ⟨rfl, rfl, by simp [hn]⟩)

/-- Everything the header check can do (R220). -/
theorem rspHeaderCheck_cases (s : State) :
    (∃ k, parseResponseHeader (fbByte s) = .error k ∧ rspHeaderCheck s = raiseFault k s) ∨
    (∃ n, parseResponseHeader (fbByte s) = .ok n ∧ rspHeaderCheck s = { s with tl := frameLength n }) := by
  unfold rspHeaderCheck
  cases hp : parseResponseHeader (fbByte s) with
  | error k => exact .inl ⟨k, rfl, rfl⟩
  | ok n => exact .inr ⟨n, rfl, rfl⟩

/-- Everything the body check can do (R221). -/
theorem rspBody_cases (s : State) :
    (∃ k, parseResponseBody (fbByte s) s.desc.tc s.desc.iid s.desc.cid s.cnt = .error k ∧ rspBody s = raiseFault k s) ∨
    (∃ r, parseResponseBody (fbByte s) s.desc.tc s.desc.iid s.desc.cid s.cnt = .ok r ∧
      rspBody s =
        { s with rseq := r.seq, plen := fbByte s 3 - 8#8, pbuf := Memory.ofBytes 0 r.payload, st := .rspAcked }) := by
  unfold rspBody
  cases hp : parseResponseBody (fbByte s) s.desc.tc s.desc.iid s.desc.cid s.cnt with
  | error k => exact .inl ⟨k, rfl, rfl⟩
  | ok r => exact .inr ⟨r, rfl, rfl⟩

/-- What a body that passes gives (R165, R166): its length, and the raw payload's. -/
theorem parseResponseBody_ok {f : Nat → Byte} {tc iid cid : Byte} {cnt : Half} {r : BodyFields}
    (h : parseResponseBody f tc iid cid cnt = .ok r) :
    8 ≤ (f 3).toNat ∧ slice f 8 8 = echoPrefix tc iid cid cnt ∧ crcMatches f 8 (f 3).toNat (8 + (f 3).toNat) = true ∧
      r = ⟨f 5, slice f 16 ((f 3).toNat - 8)⟩ := by
  unfold parseResponseBody at h
  simp only at h
  split at h
  · cases h
  · split at h
    · cases h
    · split at h
      · cases h
      · rename_i h1 h2 h3
        refine ⟨by omega, by simpa using h2, by simpa using h3, ?_⟩
        simpa using h.symm

@[simp] theorem slice_length (f : Nat → Byte) (a n : Nat) : (slice f a n).length = n := by simp [slice]

/-- Everything `CLR` can do (R293). -/
theorem commandClr_cases (s : State) :
    (s.st.terminal = true ∧
      commandClr s = { s with st := .idle, retried := false, needsRetry := false, err := none, rxOvr := false }) ∨
    (s.st = .idle ∧ commandClr s = { s with rxOvr := false }) ∨
    (s.st.busy = true ∧ commandClr s = s) := by
  unfold commandClr
  cases h : s.st <;> simp [St.terminal, St.busy]

/-- Everything `START` can do (R292). -/
theorem commandStart_cases (s : State) :
    (s.st = .idle ∧ commandStart s =
      { s with st := .drainPre, bc := 0#9, tl := 0#9, retry := false, retried := false, needsRetry := false,
               err := none }) ∨
    (s.st ≠ .idle ∧ commandStart s = s) := by
  unfold commandStart
  by_cases h : s.st = .idle
  · exact .inl ⟨h, by simp [h]⟩
  · exact .inr ⟨h, by simp [h]⟩

/-- Everything the arrival of a byte can do (R88). -/
theorem rxArrive_cases (b : Byte) (s : State) :
    (rxArrive b s = { s with rxq := s.rxq ++ [b] } ∧ ∀ d, s.rxDepth = some d → s.rxq.length < d) ∨
    (∃ d, s.rxDepth = some d ∧ d ≤ s.rxq.length ∧ rxArrive b s = { s with rxOvr := true }) := by
  unfold rxArrive
  cases h : s.rxDepth with
  | none => exact .inl ⟨rfl, by simp⟩
  | some d =>
    by_cases hd : s.rxq.length < d
    · exact .inl ⟨by simp [hd], by simpa using hd⟩
    · exact .inr ⟨d, rfl, by omega, by simp [hd]⟩

/-- A protected write (R84). -/
theorem writeUnlessBusy_cases (f : State → State) (s : State) :
    (s.st.busy = true ∧ writeUnlessBusy f s = s) ∨ (s.st.busy = false ∧ writeUnlessBusy f s = f s) := by
  unfold writeUnlessBusy
  cases h : s.st.busy <;> simp

/-- Everything the transmitter can do (R89). -/
theorem txConsume_cases (s : State) :
    (s.txq = [] ∧ txConsume s = s) ∨
    (∃ b q, s.txq = b :: q ∧ txConsume s = { s with txq := q, line := s.line ++ [b] }) := by
  unfold txConsume
  cases h : s.txq with
  | nil => exact .inl ⟨rfl, rfl⟩
  | cons b q => exact .inr ⟨b, q, rfl, rfl⟩

/-- A total frame length lies from 10 to 265 (R108). -/
theorem frameLength_toNat (n : Byte) : (frameLength n).toNat = n.toNat + 10 := by
  unfold frameLength
  have := n.isLt
  simp only [BitVec.toNat_add, BitVec.truncate_eq_setWidth, BitVec.toNat_setWidth, BitVec.toNat_ofNat]
  omega

end Sys2Proof.Machine
end

