-- ==== Sys2Proof/Laws/PerInstr.lean ====
section
/-! SUPPORT. Statements per instruction: the first byte of an instruction's encoding is the format byte of its row's format
in spec/opcode_table.json (log entry 4), so that the decoder looks at that format only. -/

namespace Sys2Proof.Laws.FormatTagged

/-- The format of each row in spec/opcode_table.json. -/
def rowFormat : Instr → Format
  | .frameHead .. => .frameHead
  | .req .. => .frameReq
  | .rsp .. => .frameRsp
  | .ack .. => .frameAck
  | .nak .. => .frameAck
  | .ackOther .. => .frameAck
  | .ctl .. => .frameCtl
  | .start .. => .hostWrite
  | .clr .. => .hostWrite
  | .hcrcInit .. => .hostWrite
  | .hcrcDin .. => .hostWrite
  | .wrCfg .. => .hostWrite
  | .wrSeq .. => .hostWrite
  | .wrCnt .. => .hostWrite
  | .wrDesc .. => .hostWrite
  | .wrKind .. => .hostWrite
  | .wrFsel .. => .hostWrite
  | .wrSumRem .. => .hostWrite
  | .wrSumFull .. => .hostWrite
  | .wrSumState .. => .hostWrite
  | .wrIgnored .. => .hostWrite
  | .rdCtrl => .hostRead
  | .rdCfg => .hostRead
  | .rdStatus => .hostRead
  | .rdErr => .hostRead
  | .rdSeq => .hostRead
  | .rdCnt => .hostRead
  | .rdDesc => .hostRead
  | .rdKind => .hostRead
  | .rdRseq => .hostRead
  | .rdPlen => .hostRead
  | .rdFsel => .hostRead
  | .rdFmeta => .hostRead
  | .rdFvalLo => .hostRead
  | .rdFvalHi => .hostRead
  | .rdDstat => .hostRead
  | .rdSumRem => .hostRead
  | .rdSumFull => .hostRead
  | .rdSumState => .hostRead
  | .rdSumPctLo => .hostRead
  | .rdSumPctHi => .hostRead
  | .rdSumLabel => .hostRead
  | .rdHcrcDin => .hostRead
  | .rdHcrcVal => .hostRead
  | .rdPbuf .. => .hostRead
  | .rdOther .. => .hostRead
  | .l0BaseStatus => .layoutEntry
  | .l3State => .layoutEntry
  | .l3PresentRate => .layoutEntry
  | .l3RemainingCapacity => .layoutEntry
  | .l3PresentVoltage => .layoutEntry
  | .fieldUint .. => .layoutEntry
  | .fieldString .. => .layoutEntry
  | .l1PowerSource => .layoutOpen
  | .l2BatteryStatus => .layoutOpen
  | .l4BatteryStatic .. => .layoutOpen
  | .stateNone => .stateCode
  | .stateDischarging => .stateCode
  | .stateCharging => .stateCode
  | .stateCritical => .stateCode
  | .stateCriticalDischarging => .stateCode
  | .stateCriticalCharging => .stateCode
  | .stateUnknown .. => .stateCode
  | .stepDrainPop => .engineStep
  | .stepDrainPreDone => .engineStep
  | .stepSendRequest => .engineStep
  | .stepAckPop => .engineStep
  | .stepAckOutcome => .engineStep
  | .stepRetransmit => .engineStep
  | .stepRspPop => .engineStep
  | .stepRspBody => .engineStep
  | .stepSendAck => .engineStep
  | .stepDrainPostDone => .engineStep
  | .stepTimeout => .engineStep
  | .rxArrive .. => .envStep
  | .txConsume => .envStep
  | .reset => .envStep
  | .crcBit .. => .operation
  | .crcUpdate .. => .operation
  | .crc16 .. => .operation
  | .crcSplit .. => .operation
  | .encodeRequest .. => .operation
  | .encodeAck .. => .operation
  | .parseAck .. => .operation
  | .needsRetry .. => .operation
  | .parseResponseHeader => .operation
  | .parseResponseBody .. => .operation
  | .classifyShape .. => .operation
  | .drainLength .. => .operation
  | .advance => .operation
  | .reqLen .. => .operation
  | .pct => .operation
  | .raiseFault .. => .operation
  | .abort => .operation

/-- The encoding begins with the format byte of the row's format. -/
def Statement (i : Instr) : Prop := (encode i).head? = some (rowFormat i).tag

theorem frameHead (type length reserved seq crcLo crcHi : Byte) : Statement (.frameHead type length reserved seq crcLo crcHi) := rfl
theorem req (seq hcrcLo hcrcHi tc iid cntLo cntHi cid pcrcLo pcrcHi : Byte) : Statement (.req seq hcrcLo hcrcHi tc iid cntLo cntHi cid pcrcLo pcrcHi) := rfl
theorem rsp (n reserved seq hcrcLo hcrcHi tc : Byte) (rest : List Byte) : Statement (.rsp n reserved seq hcrcLo hcrcHi tc rest) := rfl
theorem ack (seq crcLo crcHi : Byte) : Statement (.ack seq crcLo crcHi) := rfl
theorem nak (seq crcLo crcHi : Byte) : Statement (.nak seq crcLo crcHi) := rfl
theorem ackOther (type seq crcLo crcHi : Byte) : Statement (.ackOther type seq crcLo crcHi) := rfl
theorem ctl (rest : List Byte) : Statement (.ctl rest) := rfl
theorem start (clr init : Bool) (rsv : BitVec 29) : Statement (.start clr init rsv) := rfl
theorem clr (init : Bool) (rsv : BitVec 29) : Statement (.clr init rsv) := rfl
theorem hcrcInit (rsv : BitVec 29) : Statement (.hcrcInit rsv) := rfl
theorem hcrcDin (v : Word) : Statement (.hcrcDin v) := rfl
theorem wrCfg (v : Word) : Statement (.wrCfg v) := rfl
theorem wrSeq (v : Word) : Statement (.wrSeq v) := rfl
theorem wrCnt (v : Word) : Statement (.wrCnt v) := rfl
theorem wrDesc (v : Word) : Statement (.wrDesc v) := rfl
theorem wrKind (v : Word) : Statement (.wrKind v) := rfl
theorem wrFsel (v : Word) : Statement (.wrFsel v) := rfl
theorem wrSumRem (v : Word) : Statement (.wrSumRem v) := rfl
theorem wrSumFull (v : Word) : Statement (.wrSumFull v) := rfl
theorem wrSumState (v : Word) : Statement (.wrSumState v) := rfl
theorem wrIgnored (n : RegNum) (v : Word) : Statement (.wrIgnored n v) := rfl
theorem rdCtrl : Statement (.rdCtrl) := rfl
theorem rdCfg : Statement (.rdCfg) := rfl
theorem rdStatus : Statement (.rdStatus) := rfl
theorem rdErr : Statement (.rdErr) := rfl
theorem rdSeq : Statement (.rdSeq) := rfl
theorem rdCnt : Statement (.rdCnt) := rfl
theorem rdDesc : Statement (.rdDesc) := rfl
theorem rdKind : Statement (.rdKind) := rfl
theorem rdRseq : Statement (.rdRseq) := rfl
theorem rdPlen : Statement (.rdPlen) := rfl
theorem rdFsel : Statement (.rdFsel) := rfl
theorem rdFmeta : Statement (.rdFmeta) := rfl
theorem rdFvalLo : Statement (.rdFvalLo) := rfl
theorem rdFvalHi : Statement (.rdFvalHi) := rfl
theorem rdDstat : Statement (.rdDstat) := rfl
theorem rdSumRem : Statement (.rdSumRem) := rfl
theorem rdSumFull : Statement (.rdSumFull) := rfl
theorem rdSumState : Statement (.rdSumState) := rfl
theorem rdSumPctLo : Statement (.rdSumPctLo) := rfl
theorem rdSumPctHi : Statement (.rdSumPctHi) := rfl
theorem rdSumLabel : Statement (.rdSumLabel) := rfl
theorem rdHcrcDin : Statement (.rdHcrcDin) := rfl
theorem rdHcrcVal : Statement (.rdHcrcVal) := rfl
theorem rdPbuf (i : Byte) : Statement (.rdPbuf i) := rfl
theorem rdOther (n : RegNum) : Statement (.rdOther n) := rfl
theorem l0BaseStatus : Statement (.l0BaseStatus) := rfl
theorem l3State : Statement (.l3State) := rfl
theorem l3PresentRate : Statement (.l3PresentRate) := rfl
theorem l3RemainingCapacity : Statement (.l3RemainingCapacity) := rfl
theorem l3PresentVoltage : Statement (.l3PresentVoltage) := rfl
theorem fieldUint (offset width : Byte) : Statement (.fieldUint offset width) := rfl
theorem fieldString (offset width : Byte) : Statement (.fieldString offset width) := rfl
theorem l1PowerSource : Statement (.l1PowerSource) := rfl
theorem l2BatteryStatus : Statement (.l2BatteryStatus) := rfl
theorem l4BatteryStatic (j : Fin 20) : Statement (.l4BatteryStatic j) := rfl
theorem stateNone : Statement (.stateNone) := rfl
theorem stateDischarging : Statement (.stateDischarging) := rfl
theorem stateCharging : Statement (.stateCharging) := rfl
theorem stateCritical : Statement (.stateCritical) := rfl
theorem stateCriticalDischarging : Statement (.stateCriticalDischarging) := rfl
theorem stateCriticalCharging : Statement (.stateCriticalCharging) := rfl
theorem stateUnknown (v : Word) : Statement (.stateUnknown v) := rfl
theorem stepDrainPop : Statement (.stepDrainPop) := rfl
theorem stepDrainPreDone : Statement (.stepDrainPreDone) := rfl
theorem stepSendRequest : Statement (.stepSendRequest) := rfl
theorem stepAckPop : Statement (.stepAckPop) := rfl
theorem stepAckOutcome : Statement (.stepAckOutcome) := rfl
theorem stepRetransmit : Statement (.stepRetransmit) := rfl
theorem stepRspPop : Statement (.stepRspPop) := rfl
theorem stepRspBody : Statement (.stepRspBody) := rfl
theorem stepSendAck : Statement (.stepSendAck) := rfl
theorem stepDrainPostDone : Statement (.stepDrainPostDone) := rfl
theorem stepTimeout : Statement (.stepTimeout) := rfl
theorem rxArrive (b : Byte) : Statement (.rxArrive b) := rfl
theorem txConsume : Statement (.txConsume) := rfl
theorem reset : Statement (.reset) := rfl
theorem crcBit (c : Half) (d : Bool) : Statement (.crcBit c d) := rfl
theorem crcUpdate (c : Half) (b : Byte) : Statement (.crcUpdate c b) := rfl
theorem crc16 (bytes : List Byte) : Statement (.crc16 bytes) := rfl
theorem crcSplit (crc : Half) : Statement (.crcSplit crc) := rfl
theorem encodeRequest (tc iid cid seq : Byte) (cnt : Half) : Statement (.encodeRequest tc iid cid seq cnt) := rfl
theorem encodeAck (seq : Byte) : Statement (.encodeAck seq) := rfl
theorem parseAck (expSeq : Byte) : Statement (.parseAck expSeq) := rfl
theorem needsRetry (type : Byte) : Statement (.needsRetry type) := rfl
theorem parseResponseHeader : Statement (.parseResponseHeader) := rfl
theorem parseResponseBody (tc iid cid : Byte) (cnt : Half) : Statement (.parseResponseBody tc iid cid cnt) := rfl
theorem classifyShape (b0 b1 b2 : Byte) : Statement (.classifyShape b0 b1 b2) := rfl
theorem drainLength (shape : Shape) (b3 : Byte) : Statement (.drainLength shape b3) := rfl
theorem advance : Statement (.advance) := rfl
theorem reqLen (k : BitVec 3) : Statement (.reqLen k) := rfl
theorem pct : Statement (.pct) := rfl
theorem raiseFault (k : FatalKind) : Statement (.raiseFault k) := rfl
theorem abort : Statement (.abort) := rfl

end Sys2Proof.Laws.FormatTagged
end

