-- ==== Sys2Proof/Laws/Runs.lean ====
section
/-! SUPPORT. The laws of runs, of the bytes that the checks of a pop read, of arrivals, of the
CRC round, and of the engine's rows on `CFG`. -/

namespace Sys2Proof.Machine

/-! ### Runs -/

@[simp] theorem steps_zero (s : State) : steps 0 s = .next s := rfl

/-- A step that answers a next state goes on from it. -/
theorem steps_succ {s t : State} (n : Nat) (h : step s = .next t) : steps (n + 1) s = steps n t := by
  simp [steps, h]

/-- Two runs one after the other. -/
theorem steps_add {s t : State} {m : Nat} (n : Nat) (h : steps m s = .next t) : steps (m + n) s = steps n t := by
  induction m generalizing s with
  | zero => cases h; simp
  | succ m ih =>
    rw [Nat.succ_add]
    cases hs : step s with
    | next u => rw [steps_succ _ hs] at h ⊢; exact ih h
    | fault r => simp [steps, hs] at h
    | refused r => simp [steps, hs] at h

/-- With no move left, a step is the engine's enabled row. -/
theorem step_engine {s : State} {i : Instr} (hp : s.pending = []) (h : engineNext s = some i) : step s = exec i s := by
  simp [step, nextMove, hp, h]

@[simp] theorem execAll_nil (s : State) : execAll [] s = .next s := rfl

/-- An instruction that answers a next state goes on from it. -/
theorem execAll_cons {i : Instr} {s t : State} (rest : List Instr) (h : exec i s = .next t) :
    execAll (i :: rest) s = execAll rest t := by
  simp [execAll, h]

/-! ### The bytes that the checks of a pop read -/

/-- After the popped byte is stored, `FB` reads as the frame with that byte at `BC`, whatever else the step writes. -/
theorem fbByte_stored (s t : State) (b : Byte) (h : t.fb = Memory.write s.fb s.bc.toNat b) :
    fbByte t = frameWith b s := by
  funext k
  unfold fbByte frameWith Memory.byteAt
  rw [h, Memory.read_write]
  split <;> simp [fbByte, Memory.byteAt]

/-- The store of a pop, byte by byte. -/
theorem storesAtCounter_write (b : Byte) (s : State) :
    storesAtCounter b s { s with fb := Memory.write s.fb s.bc.toNat b } :=
  ⟨Memory.read_write_same _ _ _, fun a h => Memory.read_write_other _ _ a b h⟩

/-! ### Arrivals -/

/-- Everything the arrival of a byte sequence does with an unbounded queue. -/
theorem rxArriveAll_unbounded (bytes : List Byte) (s : State) (h : s.rxDepth = none) :
    rxArriveAll bytes s = { s with rxq := s.rxq ++ bytes } := by
  unfold rxArriveAll
  induction bytes generalizing s with
  | nil => simp
  | cons b bs ih =>
    rw [List.foldl_cons, ih] <;> simp [rxArrive, h]

/-- The arrival of a byte sequence writes the receive queue and the overrun bit, nothing else. -/
theorem rxArriveAll_frame (bytes : List Byte) (s : State) :
    rxArriveAll bytes s =
      { s with rxq := (rxArriveAll bytes s).rxq, rxOvr := (rxArriveAll bytes s).rxOvr } := by
  unfold rxArriveAll
  induction bytes generalizing s with
  | nil => rfl
  | cons b bs ih =>
    rw [List.foldl_cons, ih]
    rcases rxArrive_cases b s with ⟨h, _⟩ | ⟨_, _, _, h⟩ <;> rw [h]

/-! ### The CRC round -/

/-- One round is linear over exclusive or. -/
theorem crcRound_xor (a b : Half) : crcRound (a ^^^ b) = crcRound a ^^^ crcRound b := by
  unfold crcRound
  simp only [BitVec.getLsbD_xor]
  cases a.getLsbD 15 <;> cases b.getLsbD 15 <;> simp [BitVec.shiftLeft_xor_distrib]
  · ac_rfl
  · ac_rfl
  · rw [show a <<< 1 ^^^ crcPoly ^^^ (b <<< 1 ^^^ crcPoly) = a <<< 1 ^^^ b <<< 1 ^^^ (crcPoly ^^^ crcPoly) by ac_rfl]
    simp

/-- The byte update depends on the register and the byte only through their sum. -/
theorem crcUpdate_eq (c : Half) (b : Byte) : crcUpdate c b = crcUpdate (c ^^^ (b.zeroExtend 16 <<< 8)) 0#8 := by
  simp [crcUpdate]

@[simp] theorem crc16_nil : crc16 [] = 0xFFFF#16 := rfl

/-! ### The rows of the engine and `CFG` -/

@[simp] theorem rspBody_cfg (s : State) : (rspBody s).cfg = s.cfg := by unfold rspBody; split <;> rfl

@[simp] theorem rspHeaderCheck_cfg (s : State) : (rspHeaderCheck s).cfg = s.cfg := by unfold rspHeaderCheck; split <;> rfl

@[simp] theorem ackOutcome_cfg (s : State) : (ackOutcome s).cfg = s.cfg := by
  unfold ackOutcome; repeat' split
  all_goals rfl

@[simp] theorem drainAfterStore_cfg (b : Byte) (s : State) : (drainAfterStore b s).cfg = s.cfg := by
  unfold drainAfterStore; dsimp only; repeat' split
  all_goals rfl

/-- A pop whose continuation keeps `CFG` keeps it. -/
theorem enginePop_cfg (f : Byte → State → State) (hf : ∀ b s, (f b s).cfg = s.cfg) {s t : State}
    (h : enginePop f s = .next t) : t.cfg = s.cfg := by
  unfold enginePop at h
  split at h
  · cases h; rfl
  · split at h
    · rename_i b q u hu
      cases h
      rw [hf]
      unfold storePopped at hu
      split at hu <;> cases hu
      rfl
    · cases h

/-- The rows of the engine and the timeout keep `CFG`, and in a terminal state they do nothing. -/
theorem engine_rows_cfg {i : Instr} {s t : State} (hi : isEngineStep i = true ∨ i = .stepTimeout) (h : exec i s = .next t) :
    t.cfg = s.cfg ∧ (t = s ∨ s.st.terminal = false) := by
  have tb : s.st.terminal = false ∨ s.st = .done ∨ s.st = .aborted ∨ s.st = .faulted := by cases s.st <;> simp [St.terminal]
  constructor
  · cases i <;> simp [isEngineStep, agentOf] at hi <;>
      simp only [exec, execStepDrainPop, execStepDrainPreDone, execStepSendRequest, execStepAckPop, execStepAckOutcome,
        execStepRetransmit, execStepRspPop, execStepRspBody, execStepSendAck, execStepDrainPostDone, execStepTimeout,
        whenEnabled] at h <;>
      split at h <;> try (cases h; rfl)
    · exact enginePop_cfg _ drainAfterStore_cfg h
    · exact enginePop_cfg (fun _ t => countPop t) (fun b u => rfl) h
    · exact enginePop_cfg _ (fun b u => by rw [ackOutcome_cfg]; rfl) h
    · refine enginePop_cfg _ (fun b u => ?_) h
      split
      · rw [rspHeaderCheck_cfg]; rfl
      · rfl
    · exact enginePop_cfg _ (fun b u => by rw [rspBody_cfg]; rfl) h
  · rcases tb with hb | hb | hb | hb
    · exact .inr hb
    all_goals
      left
      cases i <;> simp [isEngineStep, agentOf] at hi <;>
      simp [exec, execStepDrainPop, execStepDrainPreDone, execStepSendRequest, execStepAckPop, execStepAckOutcome,
          execStepRetransmit, execStepRspPop, execStepRspBody, execStepSendAck, execStepDrainPostDone, execStepTimeout,
          whenEnabled, draining, accumulatingResponse, hb, engineWaiting] at h <;> exact h.symm

end Sys2Proof.Machine
end

