-- ==== Sys2Proof/Tests/Slice0.lean ====
section
/-! SUPPORT. The model's own tests: ill-formed terms, decoding of words written out from the spec's encodings, the numeric
vectors of 95_test_vectors.md one instruction at a time, and for each obligation with hypotheses a state that meets them. -/

namespace Sys2Proof.Tests.Slice0

open Sys2Proof Sys2Proof.Machine

/-- What one instruction leaves, seen through `f`. -/
def after {α : Type} (f : State → α) (i : Instr) (s : State) : Option α :=
  match exec i s with
  | .next t => some (f t)
  | .fault _ => none
  | .refused _ => none

/-- A state of the engine with `FB` holding `bytes` and `BC` counting them. -/
def holding (x : St) (bytes : List Byte) (tl : BitVec 9) : State :=
  { State.reset with st := x, fb := Memory.ofBytes 0 bytes, bc := BitVec.ofNat 9 bytes.length, tl := tl }

/-- A state whose payload is `bytes`, with `KIND` and `FSEL`. -/
def payload (k : BitVec 3) (j : BitVec 5) (bytes : List Byte) : State :=
  { State.reset with kind := k, fsel := j, pbuf := Memory.ofBytes 0 bytes, plen := BitVec.ofNat 8 bytes.length }

/-! ### Ill-formed terms are refused -/

theorem test_wf_rsp_short : (Instr.rsp 7#8 0#8 0#8 0#8 0#8 0#8 [1#8, 2#8, 3#8, 4#8, 5#8]).wf = false := by decide
theorem test_wf_rsp_length : (Instr.rsp 9#8 0#8 0#8 0#8 0#8 0#8 [1#8, 2#8, 3#8, 4#8, 5#8, 6#8]).wf = false := by decide
theorem test_wf_ackOther_ack : (Instr.ackOther 0x40#8 0#8 0#8 0#8).wf = false := by decide
theorem test_wf_ackOther_nak : (Instr.ackOther 0x04#8 0#8 0#8 0#8).wf = false := by decide
theorem test_wf_ctl_length : (Instr.ctl [1#8, 2#8]).wf = false := by decide
theorem test_wf_wrIgnored_writable : (Instr.wrIgnored 0x010#12 1#32).wf = false := by decide
theorem test_wf_wrIgnored_command : (Instr.wrIgnored 0x000#12 0x00000004#32).wf = false := by decide
theorem test_wf_rdPbuf_range : (Instr.rdPbuf 0xF7#8).wf = false := by decide
theorem test_wf_rdOther_known : (Instr.rdOther 0x015#12).wf = false := by decide
theorem test_wf_rdOther_pbuf : (Instr.rdOther 0x1F6#12).wf = false := by decide
theorem test_wf_fieldUint_width0 : (Instr.fieldUint 0#8 0#8).wf = false := by decide
theorem test_wf_fieldUint_width9 : (Instr.fieldUint 0#8 9#8).wf = false := by decide
theorem test_wf_fieldUint_range : (Instr.fieldUint 240#8 8#8).wf = false := by decide
theorem test_wf_fieldUint_known : (Instr.fieldUint 4#8 4#8).wf = false := by decide
theorem test_wf_fieldString_width0 : (Instr.fieldString 3#8 0#8).wf = false := by decide
theorem test_wf_fieldString_range : (Instr.fieldString 100#8 148#8).wf = false := by decide
theorem test_wf_stateUnknown_known : (Instr.stateUnknown 6#32).wf = false := by decide

/-! ### Decoding -/

/-- Wire frames of 95_test_vectors.md (V31, V33, V35, V36, V41, V45), after the format byte. -/
theorem test_decode_frames :
    [[0x01#8, 0xAA#8, 0x55#8, 0x80#8, 0x09#8, 0x00#8, 0x17#8, 0xBF#8, 0xA5#8],
     [0x02#8, 0xAA#8, 0x55#8, 0x80#8, 0x08#8, 0x00#8, 0x05#8, 0xFC#8, 0xA0#8, 0x80#8, 0x02#8, 0x01#8, 0x00#8, 0x01#8, 0x34#8, 0x12#8, 0x03#8, 0x5F#8, 0xD3#8],
     [0x03#8, 0xAA#8, 0x55#8, 0x80#8, 0x09#8, 0x00#8, 0x17#8, 0xBF#8, 0xA5#8, 0x80#8, 0x11#8, 0x00#8, 0x01#8, 0x00#8, 0x00#8, 0x00#8, 0x0D#8, 0x2A#8, 0x73#8, 0x6B#8],
     [0x04#8, 0xAA#8, 0x55#8, 0x40#8, 0x00#8, 0x00#8, 0x05#8, 0xF9#8, 0xBA#8, 0xFF#8, 0xFF#8],
     [0x04#8, 0xAA#8, 0x55#8, 0x04#8, 0x00#8, 0x00#8, 0x05#8, 0x94#8, 0x1E#8, 0xFF#8, 0xFF#8],
     [0x04#8, 0xAA#8, 0x55#8, 0x00#8, 0x00#8, 0x00#8, 0x00#8, 0xC0#8, 0x84#8, 0xFF#8, 0xFF#8],
     [0x05#8, 0x4E#8, 0x00#8, 0x53#8, 0x01#8, 0x02#8, 0x03#8, 0x04#8, 0x05#8, 0x06#8, 0x07#8, 0x08#8, 0x09#8, 0x0A#8, 0x0B#8, 0x0C#8, 0x0D#8, 0x0E#8, 0x0F#8, 0x10#8, 0x11#8, 0x12#8, 0x13#8, 0x14#8, 0x15#8, 0x16#8]].map decode =
    [.ok (.frameHead 0x80#8 0x09#8 0x00#8 0x17#8 0xBF#8 0xA5#8),
     .ok (.req 0x05#8 0xFC#8 0xA0#8 0x02#8 0x01#8 0x34#8 0x12#8 0x03#8 0x5F#8 0xD3#8),
     .ok (.rsp 0x09#8 0x00#8 0x17#8 0xBF#8 0xA5#8 0x11#8 [0x00#8, 0x00#8, 0x00#8, 0x0D#8, 0x2A#8, 0x73#8, 0x6B#8]),
     .ok (.ack 0x05#8 0xF9#8 0xBA#8),
     .ok (.nak 0x05#8 0x94#8 0x1E#8),
     .ok (.ackOther 0x00#8 0x00#8 0xC0#8 0x84#8),
     .ok (.ctl [0x01#8, 0x02#8, 0x03#8, 0x04#8, 0x05#8, 0x06#8, 0x07#8, 0x08#8, 0x09#8, 0x0A#8, 0x0B#8, 0x0C#8, 0x0D#8, 0x0E#8, 0x0F#8, 0x10#8, 0x11#8, 0x12#8, 0x13#8, 0x14#8, 0x15#8, 0x16#8])] := by decide

/-- Host writes: the value, then the register number (R41, R112). -/
theorem test_decode_hostWrites :
    [[0x06#8, 0x03#8, 0x00#8, 0x00#8, 0x00#8, 0x00#8, 0x00#8],
     [0x06#8, 0x06#8, 0x00#8, 0x00#8, 0x00#8, 0x00#8, 0x00#8],
     [0x06#8, 0x0C#8, 0x00#8, 0x00#8, 0x00#8, 0x00#8, 0x00#8],
     [0x06#8, 0x31#8, 0x00#8, 0x00#8, 0x00#8, 0x16#8, 0x00#8],
     [0x06#8, 0x02#8, 0x00#8, 0x00#8, 0x00#8, 0x01#8, 0x00#8],
     [0x06#8, 0x05#8, 0x00#8, 0x00#8, 0x00#8, 0x04#8, 0x00#8],
     [0x06#8, 0x34#8, 0x12#8, 0x00#8, 0x00#8, 0x05#8, 0x00#8],
     [0x06#8, 0x11#8, 0x00#8, 0x0D#8, 0x00#8, 0x06#8, 0x00#8],
     [0x06#8, 0x03#8, 0x00#8, 0x00#8, 0x00#8, 0x07#8, 0x00#8],
     [0x06#8, 0x04#8, 0x00#8, 0x00#8, 0x00#8, 0x0A#8, 0x00#8],
     [0x06#8, 0x10#8, 0x27#8, 0x00#8, 0x00#8, 0x10#8, 0x00#8],
     [0x06#8, 0xC8#8, 0xAF#8, 0x00#8, 0x00#8, 0x11#8, 0x00#8],
     [0x06#8, 0x01#8, 0x00#8, 0x00#8, 0x00#8, 0x12#8, 0x00#8],
     [0x06#8, 0xFF#8, 0xFF#8, 0xFF#8, 0xFF#8, 0x02#8, 0x00#8],
     [0x06#8, 0x08#8, 0x00#8, 0x00#8, 0x00#8, 0x00#8, 0x00#8],
     [0x06#8, 0x55#8, 0x00#8, 0x00#8, 0x00#8, 0x00#8, 0x01#8]].map decode =
    [.ok (.start true false 0#29),
     .ok (.clr true 0#29),
     .ok (.hcrcInit 1#29),
     .ok (.hcrcDin 0x31#32),
     .ok (.wrCfg 2#32),
     .ok (.wrSeq 5#32),
     .ok (.wrCnt 0x1234#32),
     .ok (.wrDesc 0x000D0011#32),
     .ok (.wrKind 3#32),
     .ok (.wrFsel 4#32),
     .ok (.wrSumRem 0x2710#32),
     .ok (.wrSumFull 0xAFC8#32),
     .ok (.wrSumState 1#32),
     .ok (.wrIgnored 0x002#12 0xFFFFFFFF#32),
     .ok (.wrIgnored 0x000#12 8#32),
     .ok (.wrIgnored 0x100#12 0x55#32)] := by decide

/-- Host reads: the register number (R41). -/
theorem test_decode_hostReads :
    [[0x07#8, 0x00#8, 0x00#8],
     [0x07#8, 0x01#8, 0x00#8],
     [0x07#8, 0x02#8, 0x00#8],
     [0x07#8, 0x03#8, 0x00#8],
     [0x07#8, 0x04#8, 0x00#8],
     [0x07#8, 0x05#8, 0x00#8],
     [0x07#8, 0x06#8, 0x00#8],
     [0x07#8, 0x07#8, 0x00#8],
     [0x07#8, 0x08#8, 0x00#8],
     [0x07#8, 0x09#8, 0x00#8],
     [0x07#8, 0x0A#8, 0x00#8],
     [0x07#8, 0x0B#8, 0x00#8],
     [0x07#8, 0x0C#8, 0x00#8],
     [0x07#8, 0x0D#8, 0x00#8],
     [0x07#8, 0x0E#8, 0x00#8],
     [0x07#8, 0x0F#8, 0x00#8],
     [0x07#8, 0x10#8, 0x00#8],
     [0x07#8, 0x11#8, 0x00#8],
     [0x07#8, 0x12#8, 0x00#8],
     [0x07#8, 0x13#8, 0x00#8],
     [0x07#8, 0x14#8, 0x00#8],
     [0x07#8, 0x15#8, 0x00#8],
     [0x07#8, 0x16#8, 0x00#8],
     [0x07#8, 0x17#8, 0x00#8],
     [0x07#8, 0x00#8, 0x01#8],
     [0x07#8, 0xF6#8, 0x01#8],
     [0x07#8, 0xF7#8, 0x01#8],
     [0x07#8, 0x7F#8, 0x00#8]].map decode =
    [.ok .rdCtrl,
     .ok .rdCfg,
     .ok .rdStatus,
     .ok .rdErr,
     .ok .rdSeq,
     .ok .rdCnt,
     .ok .rdDesc,
     .ok .rdKind,
     .ok .rdRseq,
     .ok .rdPlen,
     .ok .rdFsel,
     .ok .rdFmeta,
     .ok .rdFvalLo,
     .ok .rdFvalHi,
     .ok .rdDstat,
     .ok (.rdOther 0x00F#12),
     .ok .rdSumRem,
     .ok .rdSumFull,
     .ok .rdSumState,
     .ok .rdSumPctLo,
     .ok .rdSumPctHi,
     .ok .rdSumLabel,
     .ok .rdHcrcDin,
     .ok .rdHcrcVal,
     .ok (.rdPbuf 0#8),
     .ok (.rdPbuf 0xF6#8),
     .ok (.rdOther 0x1F7#12),
     .ok (.rdOther 0x07F#12)] := by decide

/-- Layout entries: offset, width and bit 16 of the ROM word (R113); the OPEN ones by kind and place (log entry 4). -/
theorem test_decode_layout :
    [[0x08#8, 0x00#8, 0x01#8, 0x00#8],
     [0x08#8, 0x00#8, 0x04#8, 0x00#8],
     [0x08#8, 0x04#8, 0x04#8, 0x00#8],
     [0x08#8, 0x08#8, 0x04#8, 0x00#8],
     [0x08#8, 0x0C#8, 0x04#8, 0x00#8],
     [0x08#8, 0x01#8, 0x08#8, 0x00#8],
     [0x08#8, 0x02#8, 0x08#8, 0x01#8],
     [0x09#8, 0x01#8, 0x00#8],
     [0x09#8, 0x02#8, 0x00#8],
     [0x09#8, 0x04#8, 0x13#8]].map decode =
    [.ok .l0BaseStatus,
     .ok .l3State,
     .ok .l3PresentRate,
     .ok .l3RemainingCapacity,
     .ok .l3PresentVoltage,
     .ok (.fieldUint 1#8 8#8),
     .ok (.fieldString 2#8 8#8),
     .ok .l1PowerSource,
     .ok .l2BatteryStatus,
     .ok (.l4BatteryStatic 19)] := by decide

/-- State codes (R115, R274, R275), V85 to V87. -/
theorem test_decode_stateCodes :
    [[0x0A#8, 0x00#8, 0x00#8, 0x00#8, 0x00#8],
     [0x0A#8, 0x01#8, 0x00#8, 0x00#8, 0x00#8],
     [0x0A#8, 0x02#8, 0x00#8, 0x00#8, 0x00#8],
     [0x0A#8, 0x04#8, 0x00#8, 0x00#8, 0x00#8],
     [0x0A#8, 0x05#8, 0x00#8, 0x00#8, 0x00#8],
     [0x0A#8, 0x06#8, 0x00#8, 0x00#8, 0x00#8],
     [0x0A#8, 0x03#8, 0x00#8, 0x00#8, 0x00#8],
     [0x0A#8, 0x01#8, 0x01#8, 0x00#8, 0x00#8]].map decode =
    [.ok .stateNone,
     .ok .stateDischarging,
     .ok .stateCharging,
     .ok .stateCritical,
     .ok .stateCriticalDischarging,
     .ok .stateCriticalCharging,
     .ok (.stateUnknown 3#32),
     .ok (.stateUnknown 0x101#32)] := by decide

/-- Engine steps by their place in the table (log entry 4). -/
theorem test_decode_engineSteps :
    [[0x0B#8, 0x00#8],
     [0x0B#8, 0x01#8],
     [0x0B#8, 0x02#8],
     [0x0B#8, 0x03#8],
     [0x0B#8, 0x04#8],
     [0x0B#8, 0x05#8],
     [0x0B#8, 0x06#8],
     [0x0B#8, 0x07#8],
     [0x0B#8, 0x08#8],
     [0x0B#8, 0x09#8],
     [0x0B#8, 0x0A#8]].map decode =
    [.ok .stepDrainPop,
     .ok .stepDrainPreDone,
     .ok .stepSendRequest,
     .ok .stepAckPop,
     .ok .stepAckOutcome,
     .ok .stepRetransmit,
     .ok .stepRspPop,
     .ok .stepRspBody,
     .ok .stepSendAck,
     .ok .stepDrainPostDone,
     .ok .stepTimeout] := by decide

/-- Environment steps by their place in the table (log entry 4). -/
theorem test_decode_envSteps :
    [[0x0C#8, 0x00#8, 0xAA#8],
     [0x0C#8, 0x01#8],
     [0x0C#8, 0x02#8]].map decode =
    [.ok (.rxArrive 0xAA#8),
     .ok .txConsume,
     .ok .reset] := by decide

/-- Operations by their place in the table, then their operands (log entry 4). -/
theorem test_decode_operations :
    [[0x0D#8, 0x00#8, 0xFF#8, 0xFF#8, 0x01#8],
     [0x0D#8, 0x01#8, 0x34#8, 0x12#8, 0x31#8],
     [0x0D#8, 0x02#8, 0x31#8, 0x32#8],
     [0x0D#8, 0x03#8, 0x59#8, 0xF0#8],
     [0x0D#8, 0x04#8, 0x02#8, 0x01#8, 0x03#8, 0x05#8, 0x34#8, 0x12#8],
     [0x0D#8, 0x05#8, 0x17#8],
     [0x0D#8, 0x06#8, 0x05#8],
     [0x0D#8, 0x07#8, 0x04#8],
     [0x0D#8, 0x08#8],
     [0x0D#8, 0x09#8, 0x11#8, 0x00#8, 0x0D#8, 0x01#8, 0x00#8],
     [0x0D#8, 0x0A#8, 0x4E#8, 0x00#8, 0x53#8],
     [0x0D#8, 0x0B#8, 0x01#8, 0x09#8],
     [0x0D#8, 0x0C#8],
     [0x0D#8, 0x0D#8, 0x03#8],
     [0x0D#8, 0x0E#8],
     [0x0D#8, 0x0F#8, 0x04#8],
     [0x0D#8, 0x10#8]].map decode =
    [.ok (.crcBit 0xFFFF#16 true),
     .ok (.crcUpdate 0x1234#16 0x31#8),
     .ok (.crc16 [0x31#8, 0x32#8]),
     .ok (.crcSplit 0xF059#16),
     .ok (.encodeRequest 0x02#8 0x01#8 0x03#8 0x05#8 0x1234#16),
     .ok (.encodeAck 0x17#8),
     .ok (.parseAck 0x05#8),
     .ok (.needsRetry 0x04#8),
     .ok .parseResponseHeader,
     .ok (.parseResponseBody 0x11#8 0x00#8 0x0D#8 1#16),
     .ok (.classifyShape 0x4E#8 0x00#8 0x53#8),
     .ok (.drainLength .rsp 9#8),
     .ok .advance,
     .ok (.reqLen 3#3),
     .ok .pct,
     .ok (.raiseFault .protocolDesync),
     .ok .abort] := by decide

/-- Moves that stand for nothing are refused by name. -/
theorem test_decode_refuses :
    [[], [0x0E#8], [0x04#8, 0xAA#8], [0x01#8, 0xAB#8, 0x55#8, 0#8, 0#8, 0#8, 0#8, 0#8, 0#8],
     [0x07#8, 0x00#8, 0x10#8], [0x0B#8, 0x0B#8], [0x0D#8, 0x0F#8, 0x07#8]].map decode =
    [.error .emptyMove, .error .unknownFormat, .error .badLength, .error .noRow, .error .noRow, .error .noRow,
     .error .noRow] := by decide

/-- The opcode table's own numbering: START, L3_STATE, ACK and a state code. -/
theorem test_tableWord :
    decodeTableWord 48 0x000000000001 = some (.start false false 0#29) ∧
    decodeTableWord 24 0x000400 = some .l3State ∧
    decodeTableWord 80 0xFFFF000000000040 = none ∧
    decodeTableWord 80 0xFFFF00000000004055AA = some (.ack 0#8 0#8 0#8) ∧
    decodeTableWord 32 5 = some .stateCriticalDischarging := by decide

/-! ### The spec's vectors, one instruction at a time -/

/-- V11. -/
theorem test_crc_check_value : after (·.opr) (.crc16 [0x31#8, 0x32#8, 0x33#8, 0x34#8, 0x35#8, 0x36#8, 0x37#8, 0x38#8, 0x39#8]) State.reset = some (.crc 0x29B1#16) := by decide +kernel

/-- V1. -/
theorem test_crc_empty : after (·.opr) (.crc16 []) State.reset = some (.crc 0xFFFF#16) := by decide

/-- V20. -/
theorem test_crc_bit : after (·.opr) (.crcBit 0xFFFF#16 false) State.reset = some (.crc 0xEFDF#16) := by decide

/-- R142. -/
theorem test_crc_update : after (·.opr) (.crcUpdate 0xFFFF#16 0x31#8) State.reset = some (.crc 0xC782#16) := by decide

/-- R144. -/
theorem test_crc_split : after (·.opr) (.crcSplit 0xF059#16) State.reset = some (.crcBytes 0x59#8 0xF0#8) := by decide

/-- V21. -/
theorem test_crc_residue : after (·.opr) (.crc16 [0x80#8, 0x08#8, 0x00#8, 0x00#8, 0x59#8, 0xF0#8]) State.reset = some (.crc 0x8325#16) := by decide +kernel

/-- V24: the high bits are ignored. -/
theorem test_hcrc_din : after (·.hcrc) (.hcrcDin 0xFFFFFF00#32) State.reset = some 0xE1F0#16 := by decide

/-- R294. -/
theorem test_hcrc_init : after (·.hcrc) (.hcrcInit 0#29) { State.reset with hcrc := 0x1234#16 } = some 0xFFFF#16 := by decide

/-- V31. -/
theorem test_encode_request : after (·.opr) (.encodeRequest 0x02#8 0x01#8 0x03#8 0x05#8 0x1234#16) State.reset =
    some (.frame [0xAA#8, 0x55#8, 0x80#8, 0x08#8, 0x00#8, 0x05#8, 0xFC#8, 0xA0#8, 0x80#8, 0x02#8, 0x01#8, 0x00#8, 0x01#8, 0x34#8, 0x12#8, 0x03#8, 0x5F#8, 0xD3#8]) := by decide +kernel

/-- V34. -/
theorem test_encode_ack : after (·.opr) (.encodeAck 0x17#8) State.reset = some (.frame [0xAA#8, 0x55#8, 0x40#8, 0x00#8, 0x00#8, 0x17#8, 0x8A#8, 0x88#8, 0xFF#8, 0xFF#8]) := by decide +kernel

/-- V43. -/
theorem test_parse_ack_seq : after (·.opr) (.parseAck 0x00#8) (holding .idle [0xAA#8, 0x55#8, 0x40#8, 0x00#8, 0x00#8, 0x01#8, 0x7D#8, 0xFA#8, 0xFF#8, 0xFF#8] 0#9) =
    some (.returnedFault .ackSeqMismatch) := by decide +kernel

/-- V44. -/
theorem test_parse_ack_nak : after (·.opr) (.parseAck 0x77#8) (holding .idle [0xAA#8, 0x55#8, 0x04#8, 0x00#8, 0x00#8, 0x05#8, 0x94#8, 0x1E#8, 0xFF#8, 0xFF#8] 0#9) =
    some (.ackParsed 0x04#8 0x05#8) := by decide +kernel

/-- V44, V45. -/
theorem test_needs_retry : after (·.opr) (.needsRetry 0x04#8) State.reset = some (.flag true) ∧
    after (·.opr) (.needsRetry 0x40#8) State.reset = some (.flag false) := by decide

/-- V49c. -/
theorem test_parse_header : after (·.opr) .parseResponseHeader (holding .idle [0xAA#8, 0x55#8, 0x80#8, 0x09#8, 0x00#8, 0x17#8, 0xBF#8, 0xA5#8] 0#9) = some (.header 9#8) := by decide +kernel

/-- V49d. -/
theorem test_parse_header_type : after (·.opr) .parseResponseHeader (holding .idle [0xAA#8, 0x55#8, 0x40#8, 0x00#8, 0x00#8, 0x17#8, 0x8A#8, 0x88#8] 0#9) =
    some (.returnedFault .frameSync) := by decide

/-- V49f. -/
theorem test_parse_body : after (·.opr) (.parseResponseBody 0x11#8 0x00#8 0x0D#8 0#16)
    (holding .idle [0xAA#8, 0x55#8, 0x80#8, 0x09#8, 0x00#8, 0x17#8, 0xBF#8, 0xA5#8, 0x80#8, 0x11#8, 0x00#8, 0x01#8, 0x00#8, 0x00#8, 0x00#8, 0x0D#8, 0x2A#8, 0x73#8, 0x6B#8] 0#9) = some (.body 0x17#8 [0x2A#8]) := by decide +kernel

/-- V49g. -/
theorem test_parse_body_cnt : after (·.opr) (.parseResponseBody 0x11#8 0x00#8 0x0D#8 1#16)
    (holding .idle [0xAA#8, 0x55#8, 0x80#8, 0x09#8, 0x00#8, 0x17#8, 0xBF#8, 0xA5#8, 0x80#8, 0x11#8, 0x00#8, 0x01#8, 0x00#8, 0x00#8, 0x00#8, 0x0D#8, 0x2A#8, 0x73#8, 0x6B#8] 0#9) = some (.returnedFault .unexpectedResponseTarget) := by decide

/-- V49l. -/
theorem test_classify : after (·.opr) (.classifyShape 0x4E#8 0x00#8 0x53#8) State.reset = some (.shape .ctl) ∧
    after (·.opr) (.classifyShape 0xAA#8 0x55#8 0x04#8) State.reset = some (.returnedFault .protocolDesync) := by decide

/-- R168. -/
theorem test_drain_length : after (·.opr) (.drainLength .rsp 9#8) State.reset = some (.length 19#9) := by decide

/-- V52. -/
theorem test_advance : after (fun t => (t.seq, t.cnt)) .advance { State.reset with seq := 0xFF#8, cnt := 0x00FF#16 } =
    some (0x00#8, 0x0100#16) := by decide

/-- V35. -/
theorem test_frame_arrives : after (·.rxq) (.nak 0x05#8 0x94#8 0x1E#8) { State.reset with rxq := [0x01#8] } =
    some [0x01#8, 0xAA#8, 0x55#8, 0x04#8, 0x00#8, 0x00#8, 0x05#8, 0x94#8, 0x1E#8, 0xFF#8, 0xFF#8] := by decide

/-- V38. -/
theorem test_rsp_arrives : after (·.rxq) (.rsp 8#8 0#8 0x20#8 0x3B#8 0xD4#8 0x02#8 [0x01#8, 0x01#8, 0x00#8, 0x01#8, 0xA8#8, 0x57#8]) State.reset =
    some [0xAA#8, 0x55#8, 0x80#8, 0x08#8, 0x00#8, 0x20#8, 0x3B#8, 0xD4#8, 0x80#8, 0x02#8, 0x00#8, 0x01#8, 0x01#8, 0x01#8, 0x00#8, 0x01#8, 0xA8#8, 0x57#8] := by decide

/-- R88. -/
theorem test_rx_overflow : after (fun t => (t.rxq, t.rxOvr)) (.rxArrive 2#8) { State.reset with rxDepth := some 1, rxq := [1#8] } =
    some ([1#8], true) := by decide

/-- R89. -/
theorem test_tx_consume : after (fun t => (t.txq, t.line)) .txConsume { State.reset with txq := [1#8, 2#8] } = some ([2#8], [1#8]) := by decide

/-- V54, V55. -/
theorem test_wr_seq : after (·.seq) (.wrSeq 0x1FF#32) State.reset = some 0xFF#8 ∧
    after (·.seq) (.wrSeq 9#32) { State.reset with st := .awaitAck, seq := 5#8 } = some 5#8 := by decide

/-- V54. -/
theorem test_wr_cnt : after (·.cnt) (.wrCnt 0x12345#32) State.reset = some 0x2345#16 := by decide

/-- V91. -/
theorem test_wr_desc : after (·.desc) (.wrDesc 0x000D0011#32) State.reset = some ⟨0x11#8, 0x00#8, 0x0D#8⟩ := by decide

/-- V97. -/
theorem test_wr_narrow : after (·.kind) (.wrKind 0xFF#32) State.reset = some 7#3 ∧
    after (·.fsel) (.wrFsel 0xFF#32) State.reset = some 31#5 ∧
    after (·.cfg) (.wrCfg 0xFF#32) State.reset = some ⟨true, true⟩ := by decide

/-- V92, V93. -/
theorem test_start_done : after (·.st) (.start false false 0#29) { State.reset with st := .done } = some .done ∧
    after (·.st) (.start true false 0#29) { State.reset with st := .done } = some .drainPre := by decide

/-- R292. -/
theorem test_start_status : after statusWord (.start false false 0#29) State.reset = some 0x101#32 := by decide

/-- V95. -/
theorem test_clr_faulted : after (fun t => (t.st, t.err)) (.clr false 0#29)
    { State.reset with st := .faulted, err := some ⟨.fatal .checksumMismatch, .awaitRsp⟩ } = some (.idle, none) := by decide

/-- V94. -/
theorem test_clr_busy : after (·.st) (.clr false 0#29) { State.reset with st := .awaitAck } = some .awaitAck := by decide

/-- V90. -/
theorem test_rd_reset : after (fun t => t.rdata) .rdStatus State.reset = some 0#32 ∧ after (fun t => t.rdata) .rdErr State.reset = some 0#32 ∧
    after (fun t => t.rdata) .rdHcrcVal State.reset = some 0xFFFF#32 ∧ after (fun t => t.rdata) .rdDstat State.reset = some 0x0000010A#32 ∧
    after (fun t => t.rdata) .rdSumLabel State.reset = some 0#32 ∧ after (fun t => t.rdata) (.rdOther 0x07F#12) State.reset = some 0#32 := by decide

/-- P2, P3. -/
theorem test_rd_status : after (fun t => t.rdata) .rdStatus { State.reset with st := .awaitAck, retried := true, needsRetry := true } =
    some 0x331#32 ∧
    after (fun t => t.rdata) .rdStatus { State.reset with st := .aborted, retried := true, needsRetry := true } = some 0x934#32 := by decide

/-- P3, V64. -/
theorem test_rd_err : after (fun t => t.rdata) .rdErr { State.reset with err := some ⟨.ackRetryExhausted, .awaitAck⟩ } = some 0x37#32 ∧
    after (fun t => t.rdata) .rdErr { State.reset with err := some ⟨.fatal .ackSeqMismatch, .awaitAck⟩ } = some 0x3A#32 := by decide

/-- V91. -/
theorem test_rd_desc : after (fun t => t.rdata) .rdDesc { State.reset with desc := ⟨0x11#8, 0x00#8, 0x0D#8⟩ } = some 0x000D0011#32 := by decide

/-- V70. -/
theorem test_rd_dynamic : after (fun t => t.rdata) .rdDstat (payload 3#3 1#5 [0x01#8, 0x00#8, 0x00#8, 0x00#8, 0xE8#8, 0x03#8, 0x00#8, 0x00#8, 0x10#8, 0x27#8, 0x00#8, 0x00#8, 0x68#8, 0x42#8, 0x00#8, 0x00#8]) = some 0x00000401#32 ∧
    after (fun t => t.rdata) .rdFmeta (payload 3#3 3#5 [0x01#8, 0x00#8, 0x00#8, 0x00#8, 0xE8#8, 0x03#8, 0x00#8, 0x00#8, 0x10#8, 0x27#8, 0x00#8, 0x00#8, 0x68#8, 0x42#8, 0x00#8, 0x00#8]) = some 0x04040C02#32 ∧
    after (fun t => t.rdata) .rdFvalLo (payload 3#3 1#5 [0x01#8, 0x00#8, 0x00#8, 0x00#8, 0xE8#8, 0x03#8, 0x00#8, 0x00#8, 0x10#8, 0x27#8, 0x00#8, 0x00#8, 0x68#8, 0x42#8, 0x00#8, 0x00#8]) = some 0x3E8#32 ∧
    after (fun t => t.rdata) .rdFmeta (payload 3#3 4#5 [0x01#8, 0x00#8, 0x00#8, 0x00#8, 0xE8#8, 0x03#8, 0x00#8, 0x00#8, 0x10#8, 0x27#8, 0x00#8, 0x00#8, 0x68#8, 0x42#8, 0x00#8, 0x00#8]) = some 0#32 := by decide

/-- V72. -/
theorem test_rd_short : after (fun t => t.rdata) .rdDstat (payload 3#3 0#5 [0x01#8, 0x00#8, 0x00#8, 0x00#8, 0xE8#8, 0x03#8, 0x00#8, 0x00#8, 0x10#8, 0x27#8, 0x00#8, 0x00#8, 0x68#8, 0x42#8, 0x00#8]) = some 0x0000040A#32 ∧
    after (fun t => t.rdata) .rdFmeta (payload 3#3 0#5 [0x01#8, 0x00#8, 0x00#8, 0x00#8, 0xE8#8, 0x03#8, 0x00#8, 0x00#8, 0x10#8, 0x27#8, 0x00#8, 0x00#8, 0x68#8, 0x42#8, 0x00#8]) = some 0x00040000#32 ∧
    after (fun t => t.rdata) .rdFvalLo (payload 3#3 0#5 [0x01#8, 0x00#8, 0x00#8, 0x00#8, 0xE8#8, 0x03#8, 0x00#8, 0x00#8, 0x10#8, 0x27#8, 0x00#8, 0x00#8, 0x68#8, 0x42#8, 0x00#8]) = some 0#32 := by decide

/-- V76. -/
theorem test_rd_empty_table : after (fun t => t.rdata) .rdDstat (payload 5#3 0#5 []) = some 1#32 ∧ after (fun t => t.rdata) .rdFvalHi (payload 5#3 9#5 []) = some 0#32 := by decide

/-- V70. -/
theorem test_rd_pbuf : after (fun t => t.rdata) (.rdPbuf 4#8) (payload 3#3 0#5 [0x01#8, 0x00#8, 0x00#8, 0x00#8, 0xE8#8, 0x03#8, 0x00#8, 0x00#8, 0x10#8, 0x27#8, 0x00#8, 0x00#8, 0x68#8, 0x42#8, 0x00#8, 0x00#8]) = some 0xE8#32 := by decide

/-- V74. -/
theorem test_l0 : after (·.opr) .l0BaseStatus (payload 5#3 0#5 [0x2A#8]) = some (.field 0x01010002#32 0x2A#32 0#32) := by decide

/-- V71. -/
theorem test_l3 : after (·.opr) .l3PresentRate (payload 0#3 0#5 [0x01#8, 0x00#8, 0x00#8, 0x00#8, 0xE8#8, 0x03#8, 0x00#8, 0x01#8, 0x10#8, 0x27#8, 0x00#8, 0x00#8, 0x68#8, 0x42#8, 0x00#8, 0x00#8]) = some (.field 0x04040402#32 0x010003E8#32 0#32) := by decide

/-- V78. -/
theorem test_field_uint : after (·.opr) (.fieldUint 1#8 8#8) (payload 0#3 0#5 [0x00#8, 0x01#8, 0x02#8, 0x03#8, 0x04#8, 0x05#8, 0x06#8, 0x07#8, 0x08#8]) =
    some (.field 0x08080102#32 0x04030201#32 0x08070605#32) := by decide

/-- V79. -/
theorem test_field_uint_unsigned : after (·.opr) (.fieldUint 0#8 3#8) (payload 0#3 0#5 [0xFF#8, 0xFF#8, 0xFF#8]) =
    some (.field 0x03030002#32 0x00FFFFFF#32 0#32) := by decide

/-- V77: the inner null is kept. -/
theorem test_field_string : after (·.opr) (.fieldString 2#8 8#8) (payload 0#3 0#5 [0x00#8, 0x00#8, 0x41#8, 0x00#8, 0x42#8, 0x00#8, 0x00#8, 0x00#8, 0x00#8, 0x00#8]) =
    some (.field 0x03080203#32 0#32 0#32) := by decide

/-- V77. -/
theorem test_field_string_null : after (·.opr) (.fieldString 2#8 8#8) (payload 0#3 0#5 [0x01#8, 0x01#8, 0x00#8, 0x00#8, 0x00#8, 0x00#8, 0x00#8, 0x00#8, 0x00#8, 0x00#8]) =
    some (.field 0x00080203#32 0#32 0#32) := by decide

/-- V81, V82. -/
theorem test_pct : after (·.opr) .pct { State.reset with sumRem := 29#32, sumFull := 100#32 } = some (.percent 29#39) ∧
    after (·.opr) .pct { State.reset with sumRem := 50#32, sumFull := 0#32 } = some (.percent 0#39) := by decide

/-- V83. -/
theorem test_pct_wide : after (fun t => t.rdata) .rdSumPctHi { State.reset with sumRem := 0xFFFFFFFF#32, sumFull := 1#32 } = some 0x63#32 ∧
    after (fun t => t.rdata) .rdSumPctLo { State.reset with sumRem := 0xFFFFFFFF#32, sumFull := 1#32 } = some 0xFFFFFF9C#32 := by decide

/-- V85, V87. -/
theorem test_label : after (fun t => t.rdata) .rdSumLabel { State.reset with sumState := 5#32 } = some 5#32 ∧
    after (fun t => t.rdata) .rdSumLabel { State.reset with sumState := 0x101#32 } = some 0x6100#32 := by decide

/-- V85, V86. -/
theorem test_state_rows : after (·.opr) .stateCriticalCharging State.reset = some (.label 6#32) ∧
    after (·.opr) (.stateUnknown 8#32) State.reset = some (.label 0x6100#32) := by decide

/-- R262, R269. -/
theorem test_req_len : after (·.opr) (.reqLen 3#3) State.reset = some (.length 16#9) ∧
    after (·.opr) (.reqLen 6#3) State.reset = some (.length 0#9) := by decide

/-- V69d. -/
theorem test_drain_unknown : after (fun t => (t.st, errWord t.err, t.rxq)) .stepDrainPop
    { holding .drainPre [0xAA#8, 0x55#8] 0#9 with rxq := [0x04#8, 0x00#8] } =
    some (.faulted, 0x14#32, [0x00#8]) := by decide

/-- R212. -/
theorem test_drain_length_byte : after (fun t => (t.bc, t.tl)) .stepDrainPop { holding .drainPost [0xAA#8, 0x55#8, 0x80#8] 0#9 with rxq := [0x09#8] } =
    some (4#9, 19#9) := by decide

/-- R213. -/
theorem test_drain_pre_done : after (·.st) .stepDrainPreDone { State.reset with st := .drainPre } = some .requestSent := by decide

/-- V61. -/
theorem test_send_request : after (fun t => (t.st, t.tl, t.txq)) .stepSendRequest
    { State.reset with st := .requestSent, desc := ⟨0x11#8, 0x00#8, 0x0D#8⟩ } =
    some (.awaitAck, 10#9, [0xAA#8, 0x55#8, 0x80#8, 0x08#8, 0x00#8, 0x00#8, 0x59#8, 0xF0#8, 0x80#8, 0x11#8, 0x01#8, 0x00#8, 0x00#8, 0x00#8, 0x00#8, 0x0D#8, 0xA8#8, 0xD7#8]) := by decide +kernel

/-- R215. -/
theorem test_ack_pop : after (fun t => (t.bc, t.rxq)) .stepAckPop { holding .awaitAck [0xAA#8] 10#9 with rxq := [0x55#8, 0x40#8] } =
    some (2#9, [0x40#8]) := by decide

/-- V62. -/
theorem test_ack_outcome : after (fun t => (t.st, t.bc, t.tl)) .stepAckOutcome
    { holding .awaitAck [0xAA#8, 0x55#8, 0x40#8, 0x00#8, 0x00#8, 0x00#8, 0x5C#8, 0xEA#8, 0xFF#8] 10#9 with rxq := [0xFF#8] } = some (.awaitRsp, 0#9, 0#9) := by decide +kernel

/-- P3. -/
theorem test_ack_outcome_abort : after (fun t => (t.st, errWord t.err, t.needsRetry)) .stepAckOutcome
    { holding .awaitAck [0xAA#8, 0x55#8, 0x04#8, 0x00#8, 0x00#8, 0x05#8, 0x94#8, 0x1E#8, 0xFF#8] 10#9 with rxq := [0xFF#8], retry := true } =
    some (.aborted, 0x37#32, true) := by decide +kernel

/-- R218. -/
theorem test_retransmit : after (fun t => (t.st, t.retry, t.retried, t.txq.length)) .stepRetransmit { State.reset with st := .retrying } =
    some (.awaitAck, true, true, 18) := by decide

/-- V63. -/
theorem test_rsp_header : after (fun t => (t.bc, t.tl)) .stepRspPop { holding .awaitRsp [0xAA#8, 0x55#8, 0x80#8, 0x09#8, 0x00#8, 0x17#8, 0xBF#8] 0#9 with rxq := [0xA5#8] } =
    some (8#9, 19#9) := by decide +kernel

/-- V69. -/
theorem test_rsp_header_crc : after (fun t => errWord t.err) .stepRspPop { holding .awaitRsp [0xAA#8, 0x55#8, 0x80#8, 0x09#8, 0x00#8, 0x17#8, 0xBE#8] 0#9 with rxq := [0xA5#8] } =
    some 0x52#32 := by decide +kernel

/-- R221. -/
theorem test_rsp_body : after (fun t => (t.st, t.rseq, t.plen, t.pbuf)) .stepRspBody
    { holding .awaitRsp [0xAA#8, 0x55#8, 0x80#8, 0x09#8, 0x00#8, 0x17#8, 0xBF#8, 0xA5#8, 0x80#8, 0x11#8, 0x00#8, 0x01#8, 0x00#8, 0x00#8, 0x00#8, 0x0D#8, 0x2A#8, 0x73#8] 19#9 with rxq := [0x6B#8], desc := ⟨0x11#8, 0x00#8, 0x0D#8⟩ } =
    some (.rspAcked, 0x17#8, 1#8, [(0, 0x2A#8)]) := by decide +kernel

/-- V69a. -/
theorem test_rsp_body_crc : after (fun t => (errWord t.err, t.plen)) .stepRspBody
    { holding .awaitRsp [0xAA#8, 0x55#8, 0x80#8, 0x09#8, 0x00#8, 0x17#8, 0xBF#8, 0xA5#8, 0x80#8, 0x11#8, 0x00#8, 0x01#8, 0x00#8, 0x00#8, 0x00#8, 0x0D#8, 0x2A#8, 0x73#8] 19#9 with rxq := [0x6A#8], desc := ⟨0x11#8, 0x00#8, 0x0D#8⟩ } =
    some (0x52#32, 0#8) := by decide +kernel

/-- P1. -/
theorem test_send_ack : after (·.txq) .stepSendAck { State.reset with st := .rspAcked, rseq := 0x17#8 } =
    some [0xAA#8, 0x55#8, 0x40#8, 0x00#8, 0x00#8, 0x17#8, 0x8A#8, 0x88#8, 0xFF#8, 0xFF#8] := by decide +kernel

/-- P4. -/
theorem test_drain_post_done : after (fun t => (t.st, t.seq, t.cnt)) .stepDrainPostDone
    { State.reset with st := .drainPost, seq := 0xFF#8, cnt := 0xFFFF#16 } = some (.done, 0#8, 0#16) := by decide

/-- V101. -/
theorem test_timeout : after (fun t => errWord t.err) .stepTimeout { State.reset with st := .awaitAck, cfg := ⟨false, true⟩ } =
    some 0x38#32 := by decide

/-- V103. -/
theorem test_timeout_not_at_boundary : after (·.st) .stepTimeout { State.reset with st := .drainPre, cfg := ⟨false, true⟩ } = some .drainPre := by decide

/-- R350. -/
theorem test_reset : after (fun t => (t.st, t.seq, t.rxq)) .reset { State.reset with st := .awaitAck, seq := 7#8, rxq := [1#8] } =
    some (.idle, 0#8, []) := by decide

/-- R324. -/
theorem test_raise_fault : after (fun t => (t.st, errWord t.err)) (.raiseFault .timeout) { State.reset with st := .drainPost } =
    some (.faulted, 0x78#32) := by decide

/-- R325. -/
theorem test_abort : after (fun t => (t.st, errWord t.err)) .abort { State.reset with st := .awaitAck } = some (.aborted, 0x37#32) := by decide

/-- V104, V106. -/
theorem test_irq : irq { State.reset with st := .done, cfg := ⟨true, false⟩ } = true ∧ irq { State.reset with cfg := ⟨true, false⟩ } = false := by decide

/-- The host's fetch of a table word. -/
theorem test_step_fetches : step (State.reset.withFetchWord 48 0x000000000001) = exec (.start false false 0#29) State.reset := rfl

/-! ### States and operands that meet the hypotheses of the obligations, clause by clause -/

theorem test_meets_EncodeThenDecode :
    (Instr.rsp 8#8 0#8 0#8 0#8 0#8 0#8 [1#8, 2#8, 3#8, 4#8, 5#8, 6#8]).wf = true ∧ (Instr.rdPbuf 246#8).wf = true ∧
    (Instr.fieldUint 239#8 8#8).wf = true ∧ (Instr.fieldString 0#8 247#8).wf = true ∧
    (Instr.stateUnknown 3#32).wf = true ∧ (Instr.wrIgnored 0x000#12 8#32).wf = true := by decide

theorem test_meets_DecodeThenEncode : ∃ m i, decode m = .ok i := ⟨[0x0B#8, 0x00#8], .stepDrainPop, by decide⟩

theorem test_meets_StepRunsDecodedInstruction :
    (∃ (s : State) (m : List Byte) (rest : List (List Byte)) (i : Instr), s.pending = m :: rest ∧ decode m = .ok i ∧
      i.wf = true) ∧
    (∃ (s : State) (m : List Byte) (rest : List (List Byte)) (e : DecodeError), s.pending = m :: rest ∧
      decode m = .error e) ∧
    (∃ (s : State) (i : Instr), s.pending = [] ∧ engineNext s = some i) ∧
    (∃ s : State, s.pending = [] ∧ engineNext s = none) :=
  ⟨⟨{ State.reset with pending := [[0x0C#8, 0x02#8]] }, _, _, .reset, rfl, by decide, by decide⟩,
   ⟨{ State.reset with pending := [[0x0E#8]] }, _, _, .unknownFormat, rfl, by decide⟩,
   ⟨{ State.reset with st := .requestSent }, .stepSendRequest, rfl, rfl⟩, ⟨State.reset, rfl, rfl⟩⟩

theorem test_meets_CrcUpdateTableForm : ∃ (b : Byte) (c c' : Half), crcUpdate c b = crcUpdate c' b :=
  ⟨0#8, 0#16, 0#16, rfl⟩

theorem test_meets_QueueEnds :
    (∀ d, State.reset.rxDepth = some d → State.reset.rxq.length < d) ∧
    (∃ s : State, s.rxDepth = some 1 ∧ ∀ d, s.rxDepth = some d → s.rxq.length < d) ∧
    (∃ (s : State) (d : Nat), s.rxDepth = some d ∧ d ≤ s.rxq.length) ∧
    (∃ (s : State) (b : Byte) (q : List Byte), s.txq = b :: q) ∧ State.reset.txq = [] :=
  ⟨(fun _ h => nomatch h), ⟨{ State.reset with rxDepth := some 1 }, rfl, fun _ h => Option.some.inj h ▸ Nat.zero_lt_one⟩,
   ⟨{ State.reset with rxDepth := some 1, rxq := [0#8] }, 1, rfl, by decide⟩,
   ⟨{ State.reset with txq := [0#8] }, _, _, rfl⟩, rfl⟩

theorem test_meets_FramesArriveInOrder :
    (∃ (i : Instr) (bytes : List Byte) (s : State), arrivingBytes i = some bytes ∧ s.rxDepth = none) ∧
    (∃ (i : Instr) (bytes : List Byte) (s : State) (d : Nat), arrivingBytes i = some bytes ∧ s.rxDepth = some d ∧
      d < s.rxq.length + bytes.length) :=
  ⟨⟨.ack 0#8 0#8 0#8, _, State.reset, rfl, rfl⟩, ⟨.nak 0#8 0#8 0#8, _, { State.reset with rxDepth := some 9 }, 9, rfl, rfl,
    by decide⟩⟩

theorem fbHolds_holding (x : St) (bytes : List Byte) (tl : BitVec 9) : fbHolds (holding x bytes tl) bytes := by
  intro k b h
  simp [holding, Memory.read_ofBytes, h]

theorem test_meets_BuiltFramesValidate :
    (∃ s, fbHolds s (encodeAck 0x17#8)) ∧ ∃ s, fbHolds s (encodeRequest 0x11#8 0x00#8 0x0D#8 0xFF#8 0xFFFF#16) :=
  ⟨⟨_, fbHolds_holding .idle _ 0#9⟩, ⟨_, fbHolds_holding .idle _ 0#9⟩⟩

/-- A stale acknowledgement and a stale response of length byte `n`. -/
def stale (n : Byte) : State :=
  { State.reset with
    st := .drainPre
    rxq := [0xAA#8, 0x55#8, 0x40#8] ++ List.replicate 7 0#8 ++ [0xAA#8, 0x55#8, 0x80#8, n]
      ++ List.replicate (n.toNat + 6) 0#8 }

/-- Every length byte is met: the shortest frame (0), the longest (255) and those between. -/
theorem test_meets_DrainDiscardsStaleFrames (n : Byte) :
    ∃ (a c : List Byte), ((stale n).st = .drainPre ∨ (stale n).st = .drainPost) ∧ (stale n).bc = 0#9 ∧
      (stale n).tl = 0#9 ∧ (stale n).pending = [] ∧ a.length = 7 ∧ c.length = n.toNat + 6 ∧
      (stale n).rxq = [0xAA#8, 0x55#8, 0x40#8] ++ a ++ [0xAA#8, 0x55#8, 0x80#8, n] ++ c :=
  ⟨List.replicate 7 0#8, List.replicate (n.toNat + 6) 0#8, .inl rfl, rfl, rfl, rfl, rfl, by simp, rfl⟩

theorem test_meets_BusyProtectsCountersAndDescriptor :
    State.reset.st.busy = false ∧ ({ State.reset with st := .drainPost } : State).st.busy = true := by decide

theorem test_meets_ErrReadsKindAndStage :
    State.reset.err = none ∧ ∃ (s : State) (r : ErrRecord), s.err = some r :=
  ⟨rfl, { State.reset with err := some ⟨.fatal .timeout, .awaitRsp⟩ }, _, rfl⟩

/-- Each case of the decoder's ports: no entry, an integer entry, a payload one byte too short. -/
theorem test_meets_DecoderReadPorts :
    (layout (payload 3#3 4#5 []).kind)[(payload 3#3 4#5 []).fsel.toNat]? = none ∧
    (∃ e, (layout 3#3)[3]? = some e ∧ e.isString = false ∧ decide (req 3#3 ≤ (16#8 : Byte).toNat) = true ∧
      decide (req 3#3 ≤ (15#8 : Byte).toNat) = false) := ⟨rfl, _, rfl, rfl, by decide, by decide⟩

theorem staticIsString_any (choice : Nat → Bool) : ∃ j, j < 20 ∧ staticIsString choice j = true := by
  unfold staticIsString
  split
  · rename_i h
    obtain ⟨j, hj, hc⟩ := List.countP_pos_iff.mp (show 0 < (List.range 20).countP choice by omega)
    exact ⟨j, List.mem_range.mp hj, hc⟩
  · exact ⟨0, by decide, by decide⟩

/-- The string case of the decoder's ports: the static-info table has a string entry that `FSEL` can select. -/
theorem test_meets_DecoderReadPorts_string :
    ∃ (s : State) (e : Entry), (layout s.kind)[s.fsel.toNat]? = some e ∧ e.isString = true ∧ s.plen = 247#8 := by
  obtain ⟨j, hj, hc⟩ := staticIsString_any (Config.openIsString 4#3)
  refine ⟨{ State.reset with kind := 4#3, fsel := BitVec.ofNat 5 j, plen := 247#8 },
    openEntryOf 4#3 (staticIsString (Config.openIsString 4#3)) j, ?_, hc, rfl⟩
  have hf : (BitVec.ofNat 5 j).toNat = j := by simp; omega
  show (layout 4#3)[(BitVec.ofNat 5 j).toNat]? = _
  rw [hf]
  simp [layout, layoutBatteryStatic, hj]

theorem test_meets_SummaryLabel :
    (6#32 : Word).toNat ∈ [0, 1, 2, 4, 5, 6] ∧ (3#32 : Word).toNat ∉ [0, 1, 2, 4, 5, 6] ∧
    (7#32 : Word).toNat ∉ [0, 1, 2, 4, 5, 6] := by decide

theorem test_meets_StateCodeRows : (Instr.stateUnknown 7#32).wf = true ∧ (Instr.stateUnknown 3#32).wf = true := by decide

theorem test_meets_PayloadBufferReads :
    (∃ (i b : Byte) (s : State), i.toNat < 247 ∧ i.toNat < s.plen.toNat ∧ Memory.read s.pbuf i.toNat = some b) ∧
    (246#8 : Byte).toNat < 247 ∧ (246#8 : Byte).toNat < (247#8 : Byte).toNat :=
  ⟨⟨0#8, 0x2A#8, payload 0#3 0#5 [0x2A#8], by decide, by decide, by decide⟩, by decide, by decide⟩

theorem test_meets_LayoutTablesWellFormed :
    (∃ e ∈ layout 3#3, e.isString = false) ∧ 247 < (240#8 : Byte).toNat + (8#8 : Byte).toNat ∧ 8 < (9#8 : Byte).toNat ∧
    247 < (1#8 : Byte).toNat + (247#8 : Byte).toNat :=
  ⟨⟨⟨.given "state", 0#8, 4#8, false⟩, by decide, rfl⟩, by decide, by decide, by decide⟩

theorem test_meets_RequiredLength :
    (∃ e, e ∈ layout 3#3) ∧ layout 5#3 = [] ∧ layout 7#3 = [] ∧ layout 0#3 ≠ [] :=
  ⟨⟨⟨.given "state", 0#8, 4#8, false⟩, by decide⟩, by decide, by decide, by decide⟩

/-- Narrowest and widest fields, at both ends of `PBUF`, with the payload just long enough and one byte too short. -/
theorem test_meets_fields :
    (1 ≤ (1#8 : Byte).toNat ∧ (246#8 : Byte).toNat + (1#8 : Byte).toNat ≤ 247) ∧
    ((8#8 : Byte).toNat ≤ 8 ∧ (239#8 : Byte).toNat + (8#8 : Byte).toNat ≤ 247) ∧
    (∃ s : State, (239#8 : Byte).toNat + (8#8 : Byte).toNat ≤ s.plen.toNat) ∧
    (∃ s : State, s.plen.toNat < (239#8 : Byte).toNat + (8#8 : Byte).toNat) ∧
    ((0#8 : Byte).toNat + (247#8 : Byte).toNat ≤ 247) :=
  ⟨by decide, by decide, ⟨{ State.reset with plen := 247#8 }, by decide⟩, ⟨{ State.reset with plen := 246#8 }, by decide⟩,
   by decide⟩

theorem test_meets_KnownTableRows :
    (∃ s : State, 1 ≤ s.plen.toNat) ∧ (∃ s : State, s.plen.toNat < 1) ∧ (∃ s : State, s.plen.toNat = 16) ∧
    ∃ s : State, s.plen.toNat = 15 :=
  ⟨⟨{ State.reset with plen := 1#8 }, by decide⟩, ⟨State.reset, by decide⟩, ⟨{ State.reset with plen := 16#8 }, by decide⟩,
   ⟨{ State.reset with plen := 15#8 }, by decide⟩⟩

/-- `L4_BATTERY_STATIC` decodes over `LAYOUT[4]`, of twenty entries, and `L2_BATTERY_STATUS` over `LAYOUT[2]`, of one (R268,
R270). -/
theorem test_l4_and_l2_rows_use_their_own_table :
    (∀ (j : Fin 20) (s : State),
      exec (.l4BatteryStatic j) s = .next (opReturns (fieldResult (layout 4#3) j.val s) s)) ∧
    (∀ s : State, exec .l2BatteryStatus s = .next (opReturns (fieldResult (layout 2#3) 0 s) s)) ∧
    (layout 4#3).length = 20 ∧ (layout 2#3).length = 1 :=
  ⟨fun _ _ => rfl, fun _ => rfl, rfl, rfl⟩

/-- The last row of the longest table is one of the rows named. -/
theorem test_meets_LayoutRowsAgreeWithReadPorts :
    ∃ (i : Instr) (k : BitVec 3) (j : Nat), (∃ n : Fin 20, i = .l4BatteryStatic n ∧ k = 4#3 ∧ j = n.val) ∧ j = 19 :=
  ⟨.l4BatteryStatic 19, 4#3, 19, ⟨19, rfl, rfl, rfl⟩, rfl⟩

/-- The drain pop: the third byte of each shape and of none, the fourth of a response, the last of a frame, the last byte
of `FB`. -/
theorem test_meets_DrainPop :
    (∀ x ∈ [(holding .drainPre [0xAA#8, 0x55#8] 0#9), (holding .drainPost [0x4E#8, 0x00#8] 0#9),
        (holding .drainPre [0xAA#8, 0x55#8, 0x80#8] 0#9), (holding .drainPre (List.replicate 9 0#8) 10#9),
        { holding .drainPost [] 0#9 with bc := 264#9, tl := 265#9 }],
      (x.st = .drainPre ∨ x.st = .drainPost) ∧ x.bc.toNat < 265) ∧
    ∃ s : State, s.st = .drainPre ∧ s.rxq = 0x40#8 :: [] ∧ s.bc.toNat < 265 :=
  ⟨by decide, { holding .drainPre [0xAA#8, 0x55#8] 0#9 with rxq := [0x40#8] }, rfl, rfl, by decide⟩

/-- The two enabled cases, and one disabled case for each reason. -/
theorem test_meets_DrainComplete :
    (∃ s : State, s.st = .drainPre ∧ s.bc = 0#9 ∧ s.rxq = []) ∧ (∃ s : State, s.st = .drainPost ∧ s.bc = 0#9 ∧ s.rxq = []) ∧
    (∃ s : State, s.st ≠ .drainPre ∧ s.st ≠ .drainPost ∧ s.bc = 0#9 ∧ s.rxq = []) ∧
    (∃ s : State, s.st = .drainPre ∧ s.bc ≠ 0#9 ∧ s.rxq = []) ∧ ∃ s : State, s.st = .drainPost ∧ s.bc = 0#9 ∧ s.rxq ≠ [] :=
  ⟨⟨{ State.reset with st := .drainPre }, rfl, rfl, rfl⟩, ⟨{ State.reset with st := .drainPost }, rfl, rfl, rfl⟩,
   ⟨State.reset, by decide, by decide, rfl, rfl⟩, ⟨{ State.reset with st := .drainPre, bc := 24#9 }, rfl, by decide, rfl⟩,
   ⟨{ State.reset with st := .drainPost, rxq := [0#8] }, rfl, rfl, by decide⟩⟩

theorem test_meets_EnginePushesFrames :
    (∃ s : State, s.st = .requestSent) ∧ (∃ s : State, s.st = .retrying) ∧ ∃ s : State, s.st = .rspAcked :=
  ⟨⟨{ State.reset with st := .requestSent }, rfl⟩, ⟨{ State.reset with st := .retrying }, rfl⟩,
   ⟨{ State.reset with st := .rspAcked }, rfl⟩⟩

theorem test_meets_AcknowledgementSteps :
    (∃ (s : State) (b : Byte) (q : List Byte), s.st = .awaitAck ∧ s.rxq = b :: q ∧ s.bc = 8#9 ∧ s.bc.toNat < 9) ∧
    (∃ (s : State) (b : Byte) (q : List Byte), s.st = .awaitAck ∧ s.rxq = b :: q ∧ s.bc = 9#9) :=
  ⟨⟨{ State.reset with st := .awaitAck, bc := 8#9, rxq := [0#8] }, _, _, rfl, rfl, rfl, by decide⟩,
   ⟨{ State.reset with st := .awaitAck, bc := 9#9, rxq := [0#8] }, _, _, rfl, rfl, rfl⟩⟩

/-- The outcomes of the tenth byte: acceptance, a NAK and a fault are each reached (V62, V44, V49). -/
theorem test_meets_AcknowledgementSteps_branches :
    parseAck (frameWith 0xFF#8 (holding .awaitAck
      [0xAA#8, 0x55#8, 0x40#8, 0x00#8, 0x00#8, 0x00#8, 0x5C#8, 0xEA#8, 0xFF#8] 10#9)) 0#8 = .ok ⟨0x40#8, 0#8⟩ ∧
    parseAck (frameWith 0xFF#8 (holding .awaitAck
      [0xAA#8, 0x55#8, 0x04#8, 0x00#8, 0x00#8, 0x05#8, 0x94#8, 0x1E#8, 0xFF#8] 10#9)) 0#8 = .ok ⟨0x04#8, 5#8⟩ ∧
    parseAck (frameWith 0xFE#8 (holding .awaitAck
      [0xAA#8, 0x55#8, 0x40#8, 0x00#8, 0x00#8, 0x00#8, 0x5C#8, 0xEA#8, 0xFF#8] 10#9)) 0#8 = .error .ackFormat := by
  decide +kernel

/-- The two outcomes of the last byte of a response (V49f, V49i). -/
theorem test_meets_ResponseSteps_branches :
    let s := holding .awaitRsp [0xAA#8, 0x55#8, 0x80#8, 0x09#8, 0x00#8, 0x17#8, 0xBF#8, 0xA5#8, 0x80#8, 0x11#8, 0x00#8,
      0x01#8, 0x00#8, 0x00#8, 0x00#8, 0x0D#8, 0x2A#8, 0x73#8] 19#9
    parseResponseBody (frameWith 0x6B#8 s) 0x11#8 0x00#8 0x0D#8 0#16 = .ok ⟨0x17#8, [0x2A#8]⟩ ∧
    parseResponseBody (frameWith 0x6A#8 s) 0x11#8 0x00#8 0x0D#8 0#16 = .error .checksumMismatch := by
  decide +kernel

theorem test_meets_ResponseSteps :
    (∃ (s : State) (b : Byte) (q : List Byte), s.st = .awaitRsp ∧ s.rxq = b :: q ∧ s.bc = 7#9 ∧ s.bc.toNat < 8) ∧
    (∃ (s : State) (b : Byte) (q : List Byte), s.st = .awaitRsp ∧ s.rxq = b :: q ∧ s.bc.toNat + 1 < s.tl.toNat ∧
      s.tl.toNat ≤ 265 ∧ s.bc = 8#9) ∧
    (∃ (s : State) (b : Byte) (q : List Byte), s.st = .awaitRsp ∧ s.rxq = b :: q ∧ 8 ≤ s.bc.toNat ∧
      s.bc.toNat + 1 = s.tl.toNat ∧ s.tl.toNat ≤ 265 ∧ s.tl = 265#9) :=
  ⟨⟨{ State.reset with st := .awaitRsp, bc := 7#9, rxq := [0#8] }, _, _, rfl, rfl, rfl, by decide⟩,
   ⟨{ State.reset with st := .awaitRsp, bc := 8#9, tl := 10#9, rxq := [0#8] }, _, _, rfl, rfl, by decide, by decide, rfl⟩,
   ⟨{ State.reset with st := .awaitRsp, bc := 264#9, tl := 265#9, rxq := [0#8] }, _, _, rfl, rfl, by decide, by decide,
    by decide, rfl⟩⟩

theorem test_meets_TimeoutStep :
    (∃ s : State, s.cfg.tmoEn = true ∧ s.rxq = [] ∧ s.st = .awaitRsp) ∧
    (∃ s : State, s.cfg.tmoEn = true ∧ s.rxq = [] ∧ s.st = .drainPre ∧ 0 < s.bc.toNat) ∧
    (∃ s : State, ¬ (s.cfg.tmoEn = true)) ∧ ∃ s : State, s.cfg.tmoEn = true ∧ s.st = .drainPost ∧ s.bc = 0#9 :=
  ⟨⟨{ State.reset with st := .awaitRsp, cfg := ⟨false, true⟩ }, rfl, rfl, rfl⟩,
   ⟨{ State.reset with st := .drainPre, bc := 1#9, cfg := ⟨false, true⟩ }, rfl, rfl, rfl, by decide⟩,
   ⟨State.reset, by decide⟩, ⟨{ State.reset with st := .drainPost, cfg := ⟨false, true⟩ }, rfl, rfl, rfl⟩⟩

theorem test_meets_EngineStepsAreDeterministic :
    [Instr.stepDrainPop, .stepDrainPreDone, .stepSendRequest, .stepAckPop, .stepAckOutcome, .stepRetransmit, .stepRspPop,
      .stepRspBody, .stepSendAck, .stepDrainPostDone].all isEngineStep = true ∧ isEngineStep .stepTimeout = false := by decide

theorem test_meets_EnabledStepTable :
    (∃ (s : State) (b : Byte) (q : List Byte), s.st = .drainPost ∧ s.rxq = b :: q) ∧
    (∃ (s : State) (b : Byte) (q : List Byte), s.st = .awaitAck ∧ s.rxq = b :: q ∧ s.bc.toNat = 9) ∧
    (∃ (s : State) (b : Byte) (q : List Byte), s.st = .awaitRsp ∧ s.rxq = b :: q ∧ s.tl ≠ 0#9 ∧ s.bc.toNat < s.tl.toNat) ∧
    ∃ s : State, s.st = .faulted ∧ s.rxq = [] :=
  ⟨⟨{ State.reset with st := .drainPost, rxq := [0#8] }, _, _, rfl, rfl⟩,
   ⟨{ State.reset with st := .awaitAck, bc := 9#9, rxq := [0#8] }, _, _, rfl, rfl, by decide⟩,
   ⟨{ State.reset with st := .awaitRsp, bc := 264#9, tl := 265#9, rxq := [0#8] }, _, _, rfl, rfl, by decide, by decide⟩,
   ⟨{ State.reset with st := .faulted }, rfl, rfl⟩⟩

/-- A good state with a move to run: from it a step answers a next state, and a move of an agent completes. -/
theorem test_meets_invariant :
    ∃ s t : State, Inv s ∧ step s = .next t :=
  ⟨State.reset, State.reset,
   ⟨(fun _ hm => nomatch hm), trivial, rfl, ⟨by decide, by decide, by decide⟩,
    ⟨by decide, by decide, by decide, by decide, by decide, by intro a; simp [State.reset]⟩, rfl⟩, rfl⟩

theorem test_meets_NothingStopsAGoodState :
    agentOf (.rdPbuf 0#8) ≠ none ∧
    (∃ s : State, exec .stepDrainPop s = .fault .fbOutOfRange) ∧
    ∃ s : State, exec (.fieldUint 0#8 0#8) s = .refused .malformedLayoutEntry :=
  ⟨by decide, ⟨{ State.reset with st := .drainPre, bc := 265#9, rxq := [0#8] }, rfl⟩, ⟨State.reset, rfl⟩⟩

/-- One move of each agent that answers a next state. -/
theorem test_meets_agents :
    agentOf .stepSendRequest = some .engine ∧ agentOf .stepTimeout = some .timeout ∧
    agentOf (.wrSeq 0#32) = some .host ∧ agentOf (.rxArrive 0#8) = some .peer ∧ agentOf .txConsume = some .transmitter ∧
    agentOf .reset = some .resetInput ∧
    ∀ i ∈ [Instr.stepSendRequest, .stepTimeout, .wrSeq 0#32, .rxArrive 0#8, .txConsume, .reset],
      (after (fun _ => ()) i State.reset).isSome = true := by decide

/-- Each edge that the host and the timeout make. -/
theorem test_meets_StateFollowsTheGraph :
    after (·.st) (.start true false 0#29) State.reset = some .drainPre ∧
    after (·.st) (.clr true 0#29) { State.reset with st := .faulted } = some .idle ∧
    after (·.st) (.start true true 0#29) { State.reset with st := .done } = some .drainPre ∧
    after (·.st) .stepTimeout { State.reset with st := .drainPost, bc := 1#9, cfg := ⟨false, true⟩ } = some .faulted := by
  decide

theorem test_meets_RetryPolicy :
    ∃ s : State, s.st = .requestSent ∧ s.retry = false ∧ s.pending = [] ∧
      s.rxq = ackShape 0x04#8 0x05#8 ++ ackShape 0x40#8 0x05#8 ∧ (0x40#8 : Byte) ≠ 0x04#8 ∧ s.seq = 0x05#8 :=
  ⟨{ State.reset with st := .requestSent, seq := 0x05#8, rxq := ackShape 0x04#8 0x05#8 ++ ackShape 0x40#8 0x05#8 },
   rfl, rfl, rfl, rfl, by decide, rfl⟩

theorem test_meets_RetryPolicy_abort :
    ∃ s : State, s.st = .requestSent ∧ s.retry = false ∧ s.pending = [] ∧
      s.rxq = ackShape 0x04#8 0x05#8 ++ ackShape 0x04#8 0x77#8 :=
  ⟨{ State.reset with st := .requestSent, rxq := ackShape 0x04#8 0x05#8 ++ ackShape 0x04#8 0x77#8 }, rfl, rfl, rfl, rfl⟩

/-- The shortest and the longest response. -/
theorem test_meets_ResponseCompletesTheExchange :
    ∀ n, n = 0 ∨ n = 247 → ∃ (s : State) (r q : Byte) (raw : List Byte), s.st = .awaitRsp ∧ s.bc = 0#9 ∧ s.tl = 0#9 ∧
      s.pending = [] ∧ raw.length = n ∧ raw.length ≤ 247 ∧
      s.rxq = rspFrame r q (echoPrefix s.desc.tc s.desc.iid s.desc.cid s.cnt ++ raw) := by
  intro n hn
  refine ⟨{ State.reset with
      st := .awaitRsp, rxq := rspFrame 0#8 0x17#8 (echoPrefix 0#8 0#8 0#8 0#16 ++ List.replicate n 0#8) },
    0#8, 0x17#8, List.replicate n 0#8, rfl, rfl, rfl, rfl, by simp, by simp; omega, rfl⟩

theorem test_meets_WaitingNeverEnds :
    (∃ s : State, engineWaiting s = true ∧ s.pending = [] ∧ s.st = .awaitAck ∧ s.cfg.tmoEn = false) ∧
    ∃ s : State, engineWaiting s = true ∧ s.pending = [] ∧ s.st = .drainPost ∧ s.cfg.tmoEn = true :=
  ⟨⟨{ State.reset with st := .awaitAck }, rfl, rfl, rfl, rfl⟩,
   ⟨{ State.reset with st := .drainPost, bc := 1#9, cfg := ⟨false, true⟩ }, rfl, rfl, rfl, rfl⟩⟩

/-- A move that asserts `irq` and one that deasserts it, each of two kinds: the engine's last step and `CLR` (V104), the
host's writes of `CFG`. -/
theorem test_meets_InterruptOutput :
    after irq .stepDrainPostDone { State.reset with st := .drainPost, cfg := ⟨true, false⟩ } = some true ∧
    irq { State.reset with st := .drainPost, cfg := ⟨true, false⟩ } = false ∧
    after irq (.clr false 0#29) { State.reset with st := .aborted, cfg := ⟨true, false⟩ } = some false ∧
    irq { State.reset with st := .aborted, cfg := ⟨true, false⟩ } = true ∧
    after irq (.wrCfg 1#32) { State.reset with st := .faulted } = some true ∧ irq { State.reset with st := .faulted } = false ∧
    isEngineStep .stepDrainPostDone = true ∧ agentOf (.clr false 0#29) = some .host ∧ agentOf (.wrCfg 1#32) = some .host := by
  decide

end Sys2Proof.Tests.Slice0
end

section
/-! The cases of a step: a move that decodes, a move that does not, and no move left. -/

namespace Sys2Proof.Machine

theorem nextMove_of_pending_nil {s : State} (hp : s.pending = []) : nextMove s = none := by
  simp [nextMove, hp]

theorem nextMove_of_pending_cons {s : State} {m : List Byte} {rest : List (List Byte)} (hp : s.pending = m :: rest) :
    nextMove s = some (m, { s with pending := rest }) := by
  simp [nextMove, hp]

/-- The companion of `step_engine` for a list with a move left: the decoder alone chooses the row. -/
theorem step_decoded {s : State} {m : List Byte} {rest : List (List Byte)} {i : Instr} (hp : s.pending = m :: rest)
    (hd : decode m = .ok i) : step s = exec i { s with pending := rest } := by
  simp [step, nextMove_of_pending_cons hp, hd]

theorem step_undecodable {s : State} {m : List Byte} {rest : List (List Byte)} {e : DecodeError}
    (hp : s.pending = m :: rest) (hd : decode m = .error e) : step s = .refused (.undecodable e) := by
  simp [step, nextMove_of_pending_cons hp, hd]

/-- A machine with no move left whose engine waits or has ended (R227, R354) stays as it is. -/
theorem step_waits {s : State} (hp : s.pending = []) (hn : engineNext s = none) : step s = .next s := by
  simp [step, nextMove_of_pending_nil hp, hn]

/-- Settles O4, clause by clause, by the law of each case of `step`. The first clause holds of every decodable move, so its
well-formedness hypothesis is not used. -/
theorem stepRunsDecodedInstruction : Obligations.StepRunsDecodedInstruction := by
  refine ⟨?decodes, ?undecodable, ?engine, ?waits⟩
  case decodes => exact fun _ _ _ _ hp hd _ => step_decoded hp hd
  case undecodable => exact fun _ _ _ _ hp hd => step_undecodable hp hd
  case engine => exact fun _ _ hp hn => step_engine hp hn
  case waits => exact fun _ hp hn => step_waits hp hn

end Sys2Proof.Machine
end

section
/-! What a move can do, said once per agent: each agent's rows as a relation between a state and the next one. The invariant
and the safety statements are case analyses of these relations and do not open `exec` again. -/

namespace Sys2Proof.Machine

/-- The state in which the checks of a pop run: the head `b` of `RXQ` stored at `FB[BC]`, `q` left in the queue (R32). -/
def popped (b : Byte) (q : List Byte) (s : State) : State :=
  { s with rxq := q, fb := Memory.write s.fb s.bc.toNat b }

/-! ### The engine -/

/-- The engine's rows, each under its guard (R212 to R223); a row that is not enabled rests (log entry 3). -/
inductive EngineMove : Instr → State → State → Prop where
  | rests (i : Instr) (s : State) : EngineMove i s s
  | drainPop {s : State} {b : Byte} {q : List Byte} (hg : draining s = true) (hq : s.rxq = b :: q) :
      EngineMove .stepDrainPop s (drainAfterStore b (popped b q s))
  | drainPreDone {s : State} (hst : s.st = .drainPre) (hbc : s.bc = 0#9) (hq : s.rxq = []) :
      EngineMove .stepDrainPreDone s { s with st := .requestSent }
  | sendRequest {s : State} (hst : s.st = .requestSent) : EngineMove .stepSendRequest s (sendRequest s)
  | ackPop {s : State} {b : Byte} {q : List Byte} (hst : s.st = .awaitAck) (hbc : s.bc.toNat < 9) (hq : s.rxq = b :: q) :
      EngineMove .stepAckPop s (countPop (popped b q s))
  | ackOutcome {s : State} {b : Byte} {q : List Byte} (hst : s.st = .awaitAck) (hbc : s.bc = 9#9) (hq : s.rxq = b :: q) :
      EngineMove .stepAckOutcome s (ackOutcome (countPop (popped b q s)))
  | retransmit {s : State} (hst : s.st = .retrying) :
      EngineMove .stepRetransmit s { sendRequest s with retry := true, retried := true }
  | rspPop {s : State} {b : Byte} {q : List Byte} (hg : accumulatingResponse s = true) (hl : lastOfResponse s = false)
      (hbc : s.bc ≠ 7#9) (hq : s.rxq = b :: q) :
      EngineMove .stepRspPop s (countPop (popped b q s))
  | rspHeader {s : State} {b : Byte} {q : List Byte} (hg : accumulatingResponse s = true) (hbc : s.bc = 7#9)
      (hq : s.rxq = b :: q) : EngineMove .stepRspPop s (rspHeaderCheck (countPop (popped b q s)))
  | rspBody {s : State} {b : Byte} {q : List Byte} (hg : accumulatingResponse s = true) (hl : lastOfResponse s = true)
      (hq : s.rxq = b :: q) :
      EngineMove .stepRspBody s (rspBody (countPop (popped b q s)))
  | sendAck {s : State} (hst : s.st = .rspAcked) :
      EngineMove .stepSendAck s { pushFrame (encodeAck s.rseq) s with st := .drainPost, bc := 0#9, tl := 0#9 }
  | drainPostDone {s : State} (hst : s.st = .drainPost) (hbc : s.bc = 0#9) (hq : s.rxq = []) :
      EngineMove .stepDrainPostDone s { advanceCounters s with st := .done }

/-- A guarded pop that answers a next state rests or runs its continuation on the popped state. -/
theorem guardedPop_next {g : Bool} {f : Byte → State → State} {s t : State}
    (h : whenEnabled g (enginePop f s) s = .next t) :
    t = s ∨ ∃ b q, g = true ∧ s.rxq = b :: q ∧ t = f b (popped b q s) := by
  obtain ⟨hg, hp⟩ | ⟨_, ht⟩ := whenEnabled_next h
  · obtain ⟨_, ht⟩ | ⟨b, q, hq, -, ht⟩ := enginePop_next hp
    · exact .inl ht
    · exact .inr ⟨b, q, hg, hq, ht⟩
  · exact .inl ht

/-- A guarded plain step rests or takes its step. -/
theorem guardedStep_next {g : Bool} {s t u : State} (h : whenEnabled g (.next u) s = .next t) :
    t = s ∨ (g = true ∧ t = u) := by
  obtain ⟨hg, hu⟩ | ⟨_, ht⟩ := whenEnabled_next h
  · exact .inr ⟨hg, by cases hu; rfl⟩
  · exact .inl ht

/-- Every next state of an engine row is one of the engine's moves. -/
theorem engineMove_of_exec {i : Instr} {s t : State} (hi : agentOf i = some .engine) (h : exec i s = .next t) :
    EngineMove i s t := by
  cases i with
  | stepDrainPop =>
    obtain rfl | ⟨b, q, hg, hq, rfl⟩ := guardedPop_next h
    exacts [.rests _ _, .drainPop hg hq]
  | stepDrainPreDone =>
    obtain rfl | ⟨hg, rfl⟩ := guardedStep_next h
    · exact .rests _ _
    · simp only [Bool.and_eq_true, beq_iff_eq, List.isEmpty_iff] at hg
      obtain ⟨⟨hst, hbc⟩, hq⟩ := hg
      exact .drainPreDone hst hbc hq
  | stepSendRequest =>
    obtain rfl | ⟨hg, rfl⟩ := guardedStep_next h
    exacts [.rests _ _, .sendRequest (by simpa using hg)]
  | stepAckPop =>
    obtain rfl | ⟨b, q, hg, hq, rfl⟩ := guardedPop_next h
    · exact .rests _ _
    · simp only [Bool.and_eq_true, beq_iff_eq, decide_eq_true_eq] at hg
      exact .ackPop hg.1 hg.2 hq
  | stepAckOutcome =>
    obtain rfl | ⟨b, q, hg, hq, rfl⟩ := guardedPop_next h
    · exact .rests _ _
    · simp only [Bool.and_eq_true, beq_iff_eq] at hg
      exact .ackOutcome hg.1 hg.2 hq
  | stepRetransmit =>
    obtain rfl | ⟨hg, rfl⟩ := guardedStep_next h
    exacts [.rests _ _, .retransmit (by simpa using hg)]
  | stepRspPop =>
    obtain rfl | ⟨b, q, hg, hq, rfl⟩ := guardedPop_next h
    · exact .rests _ _
    · simp only [Bool.and_eq_true, Bool.not_eq_true'] at hg
      obtain ⟨hg, hl⟩ := hg
      by_cases hbc : s.bc = 7#9
      · simpa [popped, hbc] using EngineMove.rspHeader hg hbc hq
      · simpa [popped, hbc] using EngineMove.rspPop hg hl hbc hq
  | stepRspBody =>
    obtain rfl | ⟨b, q, hg, hq, rfl⟩ := guardedPop_next h
    · exact .rests _ _
    · simp only [Bool.and_eq_true] at hg
      exact .rspBody hg.1 hg.2 hq
  | stepSendAck =>
    obtain rfl | ⟨hg, rfl⟩ := guardedStep_next h
    exacts [.rests _ _, .sendAck (by simpa using hg)]
  | stepDrainPostDone =>
    obtain rfl | ⟨hg, rfl⟩ := guardedStep_next h
    · exact .rests _ _
    · simp only [Bool.and_eq_true, beq_iff_eq, List.isEmpty_iff] at hg
      obtain ⟨⟨hst, hbc⟩, hq⟩ := hg
      exact .drainPostDone hst hbc hq
  | _ => cases hi

/-! ### The timeout -/

/-- The timeout row rests, or enters the fault from a state in which the engine waits for a byte (R332). -/
theorem stepTimeout_next {s t : State} (h : exec .stepTimeout s = .next t) :
    t = s ∨ (engineWaiting s = true ∧ t = raiseFault .timeout s) := by
  obtain rfl | ⟨hg, rfl⟩ := guardedStep_next h
  · exact .inl rfl
  · simp only [Bool.and_eq_true] at hg
    exact .inr ⟨hg.2, rfl⟩

/-! ### The host -/

/-- The host's rows: a read returns a word (R290); the registers that only the host and the decoder use are stored freely
(R291, R294, R295, R297), the counters and the descriptor while not busy (R84); two rows are commands (R292, R293). -/
inductive HostMove : Instr → State → State → Prop where
  | read (i : Instr) (s : State) (w : Word) (n : Nat) : HostMove i s { s with rdata := w, draws := n }
  | writeHostOnly (i : Instr) (s : State) (k : BitVec 3) (f : BitVec 5) (r u x : Word) (c : Half) :
      HostMove i s (withHostOnly k f r u x c s)
  | writeCfg (v : Word) (s : State) : HostMove (.wrCfg v) s { s with cfg := cfgOf v }
  | writeSeq (v : Word) {s : State} (hb : s.st.busy = false) : HostMove (.wrSeq v) s { s with seq := byteOf v }
  | writeCnt (v : Word) {s : State} (hb : s.st.busy = false) : HostMove (.wrCnt v) s { s with cnt := halfOf v }
  | writeDesc (v : Word) {s : State} (hb : s.st.busy = false) : HostMove (.wrDesc v) s { s with desc := descOf v }
  | clr (init : Bool) (rsv : BitVec 29) (s : State) :
      HostMove (.clr init rsv) s (commandIf init commandHcrcInit (commandClr s))
  | start (clr init : Bool) (rsv : BitVec 29) (s : State) :
      HostMove (.start clr init rsv) s (commandStart (commandIf init commandHcrcInit (commandIf clr commandClr s)))

/-- A move that changes nothing is a store of what the registers hold. -/
theorem HostMove.rests (i : Instr) (s : State) : HostMove i s s :=
  .writeHostOnly i s s.kind s.fsel s.sumRem s.sumFull s.sumState s.hcrc

/-- A protected write stores while not busy and else changes nothing (R84). -/
theorem HostMove.writeUnlessBusy {i : Instr} {f : State → State} {s : State}
    (hf : s.st.busy = false → HostMove i s (f s)) : HostMove i s (writeUnlessBusy f s) := by
  obtain ⟨_, e⟩ | ⟨hb, e⟩ := writeUnlessBusy_cases f s <;> rw [e]
  exacts [.rests i s, hf hb]

/-- Every host row answers a next state, by one of the host's moves. -/
theorem exec_host {i : Instr} (hi : agentOf i = some .host) (s : State) :
    ∃ t, exec i s = .next t ∧ HostMove i s t := by
  cases i with
  | start clr init rsv => exact ⟨_, rfl, .start clr init rsv s⟩
  | clr init rsv => exact ⟨_, rfl, .clr init rsv s⟩
  | hcrcInit rsv => exact ⟨_, rfl, .writeHostOnly _ s s.kind s.fsel s.sumRem s.sumFull s.sumState crcInit⟩
  | hcrcDin v =>
    exact ⟨_, rfl, .writeHostOnly _ s s.kind s.fsel s.sumRem s.sumFull s.sumState (crcUpdate s.hcrc (byteOf v))⟩
  | wrCfg v => exact ⟨_, rfl, .writeCfg v s⟩
  | wrSeq v => exact ⟨_, rfl, .writeUnlessBusy (.writeSeq v)⟩
  | wrCnt v => exact ⟨_, rfl, .writeUnlessBusy (.writeCnt v)⟩
  | wrDesc v => exact ⟨_, rfl, .writeUnlessBusy (.writeDesc v)⟩
  | wrKind v => exact ⟨_, rfl, .writeHostOnly _ s (kindOf v) s.fsel s.sumRem s.sumFull s.sumState s.hcrc⟩
  | wrFsel v => exact ⟨_, rfl, .writeHostOnly _ s s.kind (fselOf v) s.sumRem s.sumFull s.sumState s.hcrc⟩
  | wrSumRem v => exact ⟨_, rfl, .writeHostOnly _ s s.kind s.fsel v s.sumFull s.sumState s.hcrc⟩
  | wrSumFull v => exact ⟨_, rfl, .writeHostOnly _ s s.kind s.fsel s.sumRem v s.sumState s.hcrc⟩
  | wrSumState v => exact ⟨_, rfl, .writeHostOnly _ s s.kind s.fsel s.sumRem s.sumFull v s.hcrc⟩
  | wrIgnored n v => exact ⟨_, rfl, .rests _ s⟩
  | rdCtrl | rdCfg | rdStatus | rdErr | rdSeq | rdCnt | rdDesc | rdKind | rdRseq | rdPlen | rdFsel | rdFmeta | rdFvalLo
  | rdFvalHi | rdDstat | rdSumRem | rdSumFull | rdSumState | rdSumPctLo | rdSumPctHi | rdSumLabel | rdHcrcDin
  | rdHcrcVal | rdOther => exact ⟨_, rfl, .read _ s _ s.draws⟩
  | rdPbuf a =>
    simp only [exec, execRdPbuf]
    split
    · exact ⟨_, rfl, .read _ s _ s.draws⟩
    · split
      exacts [⟨_, rfl, .read _ s _ s.draws⟩, ⟨_, rfl, .read _ s _ (s.draws + 1)⟩]
  | _ => cases hi

/-! ### All agents -/

/-- A row of the peer brings bytes to the receive side (R88; log entry 5). -/
theorem exec_peer {i : Instr} (hi : agentOf i = some .peer) :
    ∃ bytes, ∀ s, exec i s = .next (rxArriveAll bytes s) := by
  cases i with
  | frameHead | req | rsp | ack | nak | ackOther | ctl => exact ⟨_, fun _ => rfl⟩
  | rxArrive b => exact ⟨[b], fun _ => rfl⟩
  | _ => cases hi

theorem eq_stepTimeout_of_agent {i : Instr} (hi : agentOf i = some .timeout) : i = .stepTimeout := by
  cases i with
  | stepTimeout => rfl
  | _ => cases hi

theorem eq_txConsume_of_agent {i : Instr} (hi : agentOf i = some .transmitter) : i = .txConsume := by
  cases i with
  | txConsume => rfl
  | _ => cases hi

theorem eq_reset_of_agent {i : Instr} (hi : agentOf i = some .resetInput) : i = .reset := by
  cases i with
  | reset => rfl
  | _ => cases hi

/-- The moves of all agents (R9, R10). -/
inductive AgentMove : Instr → State → State → Prop where
  | host {i : Instr} {s t : State} (h : HostMove i s t) : AgentMove i s t
  | engine {i : Instr} {s t : State} (hi : isEngineStep i = true) (h : EngineMove i s t) : AgentMove i s t
  | noTimeout (s : State) : AgentMove .stepTimeout s s
  | timeout {s : State} (hw : engineWaiting s = true) : AgentMove .stepTimeout s (raiseFault .timeout s)
  | peer (i : Instr) (bytes : List Byte) (s : State) : AgentMove i s (rxArriveAll bytes s)
  | transmitter (s : State) : AgentMove .txConsume s (txConsume s)
  | reset (s : State) : AgentMove .reset s (resetKeeping s)

/-- Whatever an agent's row answers is one of the agents' moves. -/
theorem agentMove_of_exec {i : Instr} {s t : State} (hi : agentOf i ≠ none) (h : exec i s = .next t) :
    AgentMove i s t := by
  obtain ⟨a, ha⟩ := Option.ne_none_iff_exists'.mp hi
  cases a with
  | host =>
    obtain ⟨u, hu, hm⟩ := exec_host ha s
    cases hu.symm.trans h
    exact .host hm
  | peer =>
    obtain ⟨bytes, hb⟩ := exec_peer ha
    cases (hb s).symm.trans h
    exact .peer i bytes s
  | transmitter =>
    obtain rfl := eq_txConsume_of_agent ha
    cases h
    exact .transmitter s
  | engine => exact .engine (by simp [isEngineStep, ha]) (engineMove_of_exec ha h)
  | timeout =>
    obtain rfl := eq_stepTimeout_of_agent ha
    obtain rfl | ⟨hw, rfl⟩ := stepTimeout_next h
    exacts [.noTimeout _, .timeout hw]
  | resetInput =>
    obtain rfl := eq_reset_of_agent ha
    cases h
    exact .reset s

end Sys2Proof.Machine
end

section
/-! The invariant `Inv`: it holds at reset, every agent's move keeps it, and so does every step. -/

namespace Sys2Proof.Machine

/-! ### The parts that only the buffers, the queue and the list of moves bear on -/

/-- The part of `Inv` in which the state register has no say. -/
structure StorageInv (s : State) : Prop where
  moves : HardwareMoves s
  buffers : BufferInv s
  queue : QueueInv s

theorem Inv.storage {s : State} (h : Inv s) : StorageInv s := ⟨h.moves, h.buffers, h.queue⟩

/-- `BC` and `TL` have no say either. -/
theorem StorageInv.setCounters {s : State} (h : StorageInv s) (n l : BitVec 9) :
    StorageInv { s with bc := n, tl := l } := ⟨h.moves, h.buffers, h.queue⟩

theorem queueInv_iff (s : State) :
    QueueInv s ↔ (s.rxDepth = none → s.rxOvr = false) ∧ ∀ d, s.rxDepth = some d → s.rxq.length ≤ d := by
  unfold QueueInv
  cases s.rxDepth <;> simp

/-- Clearing the overrun bit keeps the queue's invariant. -/
theorem QueueInv.clearOverrun {s : State} (h : QueueInv s) : QueueInv { s with rxOvr := false } := by
  rw [queueInv_iff] at h ⊢
  exact ⟨fun _ => rfl, h.2⟩

/-- A pop stores inside `FB` and shortens the queue. -/
theorem StorageInv.popped {s : State} {b : Byte} {q : List Byte} (h : StorageInv s) (hq : s.rxq = b :: q)
    (hb : s.bc.toNat < Config.frameMax) : StorageInv (popped b q s) := by
  obtain ⟨hfb, hbelow, hpbuf⟩ := h.buffers
  obtain ⟨hovr, hlen⟩ := (queueInv_iff s).mp h.queue
  have hlen' : ∀ d, s.rxDepth = some d → q.length ≤ d := fun d hd => by
    have := hlen d hd
    rw [hq, List.length_cons] at this
    omega
  exact ⟨h.moves, ⟨Memory.wf_write _ _ _ hfb, Memory.below_write _ _ _ _ hb hbelow, hpbuf⟩,
    (queueInv_iff _).mpr ⟨hovr, hlen'⟩⟩

/-- The payload of an accepted response fills `PBUF` exactly up to `PLEN` (R26, R27, R166). -/
theorem bufferInv_capture {s : State} {r : BodyFields} (h : BufferInv s)
    (hr : parseResponseBody (fbByte s) s.desc.tc s.desc.iid s.desc.cid s.cnt = .ok r) (x : St) :
    BufferInv { s with rseq := r.seq, plen := fbByte s 3 - 8#8, pbuf := Memory.ofBytes 0 r.payload, st := x } := by
  obtain ⟨hn, -, -, rfl⟩ := parseResponseBody_ok hr
  have hlt := (fbByte s 3).isLt
  have hplen : (fbByte s 3 - 8#8).toNat = (fbByte s 3).toNat - 8 := by
    simp only [BitVec.toNat_sub, BitVec.toNat_ofNat]
    omega
  have hbelow : Memory.below (Memory.ofBytes 0 (slice (fbByte s) 16 ((fbByte s 3).toNat - 8))) Config.pbufSize = true :=
    Memory.below_ofBytes _ _ _ (by simp only [slice_length, Config.pbufSize]; omega)
  refine ⟨h.1, h.2.1, Memory.wf_ofBytes _ _, hbelow, ?_, fun a => ?_⟩
  · simp only [hplen, Config.pbufSize]
    omega
  · simp [Memory.read_ofBytes, hplen]

/-- Fault entry from a state in which a fault can be detected gives a good state (R324). -/
theorem StorageInv.raiseFault {s : State} (h : StorageInv s) (hst : popsBytes s.st) (k : FatalKind) :
    Inv (raiseFault k s) where
  moves := h.moves
  counters := trivial
  errors := ⟨k, s.st, rfl, hst⟩
  retries := by simp [RetryInv, St.busy]
  buffers := h.buffers
  queue := h.queue

/-! ### What the invariant says in each state -/

theorem Inv.drainInv {s : State} (h : Inv s) (hg : draining s = true) : DrainInv s := by
  have hc := h.counters
  simp only [draining, Bool.or_eq_true, beq_iff_eq] at hg
  obtain hst | hst := hg <;> simpa [CounterInv, hst] using hc

theorem popsBytes_of_draining {s : State} (hg : draining s = true) : popsBytes s.st := by
  simp only [draining, Bool.or_eq_true, beq_iff_eq] at hg
  obtain hst | hst := hg <;> simp [popsBytes, hst]

theorem awaitRsp_of_accumulating {s : State} (hg : accumulatingResponse s = true) : s.st = .awaitRsp := by
  simp only [accumulatingResponse, Bool.and_eq_true, beq_iff_eq] at hg
  exact hg.1

theorem Inv.awaitAck {s : State} (h : Inv s) (hst : s.st = .awaitAck) : s.bc.toNat < 10 ∧ s.tl = 10#9 := by
  simpa [CounterInv, hst] using h.counters

theorem Inv.awaitRsp {s : State} (h : Inv s) (hst : s.st = .awaitRsp) :
    (s.bc.toNat < 8 ∧ s.tl = 0#9) ∨
      (8 ≤ s.bc.toNat ∧ s.bc.toNat < s.tl.toNat ∧ 10 ≤ s.tl.toNat ∧ s.tl.toNat ≤ 265) := by
  simpa [CounterInv, hst] using h.counters

/-- Outside the two ways to end badly nothing is recorded in `ERR` (R45). -/
theorem Inv.err_none {s : State} (h : Inv s) (ha : s.st ≠ .aborted) (hf : s.st ≠ .faulted) : s.err = none := by
  have he := h.errors
  unfold ErrInv at he
  split at he <;> simp_all

theorem Inv.retried_eq {s : State} (h : Inv s) (hb : s.st.busy = true) : s.retried = s.retry := h.retries.1 hb

theorem Inv.retrying {s : State} (h : Inv s) (hst : s.st = .retrying) : s.retry = false ∧ s.needsRetry = true :=
  h.retries.2.1 hst

/-- Past the acknowledgement "needs retry" is clear (R38). -/
theorem Inv.needsRetry_false {s : State} (h : Inv s)
    (hst : s.st = .awaitRsp ∨ s.st = .rspAcked ∨ s.st = .drainPost ∨ s.st = .done) : s.needsRetry = false :=
  h.retries.2.2 hst

/-- Wherever the engine pops, `FB` has the byte that the counter names (R29, R32). -/
theorem Inv.bc_lt {s : State} (h : Inv s) (hst : popsBytes s.st) : s.bc.toNat < Config.frameMax := by
  unfold Config.frameMax
  have drain (hg : draining s = true) : s.bc.toNat < 265 := by
    obtain ⟨hbc, _⟩ | ⟨hbc, _⟩ | ⟨_, hbc, _⟩ := h.drainInv hg
    · omega
    · simp [hbc]
    · omega
  obtain hst | hst | hst | hst := hst
  · exact drain (by simp [draining, hst])
  · have := (h.awaitAck hst).1
    omega
  · have := h.awaitRsp hst
    omega
  · exact drain (by simp [draining, hst])

/-! ### The engine's moves -/

/-- The byte that a pop stores is the one its checks read at `BC`. -/
theorem fbByte_popped (b : Byte) (q : List Byte) (s : State) (a : Nat) :
    fbByte (popped b q s) a = if a = s.bc.toNat then b else fbByte s a := by
  simpa [frameWith] using congrFun (fbByte_stored s (popped b q s) b rfl) a

theorem toNat_add_one {n : BitVec 9} (h : n.toNat < 511) : (n + 1#9).toNat = n.toNat + 1 := by
  simp only [BitVec.toNat_add, BitVec.toNat_ofNat]
  omega

theorem ten_le_frameLength (n : Byte) : 10 ≤ (frameLength n).toNat ∧ (frameLength n).toNat ≤ 265 := by
  have := n.isLt
  rw [frameLength_toNat]
  omega

/-- The target length in mid-frame: none before the shape is known, a whole frame's length from the fourth byte on (R212). -/
def drainTarget (b : Byte) (s : State) : BitVec 9 :=
  if s.bc + 1#9 = 4#9 ∧ classifyShape (fbByte s 0) (fbByte s 1) (fbByte s 2) = some .rsp then frameLength b else s.tl

theorem drainTarget_range {s : State} (h : DrainInv s) (b : Byte) (q : List Byte) (h3 : s.bc + 1#9 ≠ 3#9) :
    (s.bc.toNat < 2 ∧ drainTarget b (popped b q s) = 0#9) ∨
      (3 ≤ s.bc.toNat ∧ s.bc.toNat < (drainTarget b (popped b q s)).toNat ∧
        10 ≤ (drainTarget b (popped b q s)).toNat ∧ (drainTarget b (popped b q s)).toNat ≤ 265) := by
  have hfl := ten_le_frameLength b
  have hbc2 : s.bc.toNat ≠ 2 := fun e => h3 (by rw [BitVec.eq_of_toNat_eq (y := 2#9) e]; rfl)
  obtain ⟨hbc, htl⟩ | ⟨hbc, htl⟩ | ⟨hbc, hlt, hlo, hhi⟩ := h
  · have h4 : s.bc + 1#9 ≠ 4#9 := by bv_omega
    exact .inl ⟨by omega, by simpa [drainTarget, popped, h4] using htl⟩
  · have hfb (a : Nat) (ha : a < 3) : fbByte (popped b q s) a = fbByte s a := by
      rw [fbByte_popped, if_neg (by simp only [hbc, BitVec.toNat_ofNat]; omega)]
    refine .inr ?_
    simp only [drainTarget, hfb 0 (by omega), hfb 1 (by omega), hfb 2 (by omega)]
    split
    · simp only [hbc, BitVec.toNat_ofNat]
      omega
    · next hns =>
      obtain htl | htl | ⟨_, hrsp⟩ := htl
      · simp [popped, hbc, htl]
      · simp [popped, hbc, htl]
      · exact absurd ⟨by simp [popped, hbc], hrsp⟩ hns
  · have h4 : s.bc + 1#9 ≠ 4#9 := by bv_omega
    have e : drainTarget b (popped b q s) = s.tl := by simp [drainTarget, popped, h4]
    rw [e]
    omega

/-- A drain pop that raises nothing keeps what is known of `BC`, `TL` and the first bytes of `FB` (R212). -/
theorem DrainInv.afterStore {s : State} (h : DrainInv s) (b : Byte) (q : List Byte) :
    drainAfterStore b (popped b q s) = Machine.raiseFault .protocolDesync { popped b q s with bc := 3#9 } ∨
      ∃ n l, drainAfterStore b (popped b q s) = { popped b q s with bc := n, tl := l } ∧
        DrainInv { popped b q s with bc := n, tl := l } := by
  obtain ⟨-, -, e⟩ | ⟨h3, x, hx, e⟩ | ⟨h3, l, hl, e⟩ := drainAfterStore_cases b (popped b q s)
  · exact .inl e
  · have hbc : s.bc.toNat = 2 := by
      have : s.bc + 1#9 = 3#9 := h3
      bv_omega
    have hb : fbByte (popped b q s) 2 = b := by rw [fbByte_popped, if_pos hbc.symm]
    refine .inr ⟨_, _, e, .inr (.inl ⟨rfl, ?_⟩)⟩
    cases x with
    | ack => exact .inl rfl
    | ctl => exact .inr (.inl rfl)
    | rsp =>
      have hshape : classifyShape (fbByte (popped b q s) 0) (fbByte (popped b q s) 1) (fbByte (popped b q s) 2) =
        some .rsp := by rw [hb]; exact hx
      exact .inr (.inr ⟨rfl, hshape⟩)
  · have hr := drainTarget_range h b q h3
    rw [← show l = drainTarget b (popped b q s) from hl] at hr
    refine .inr ?_
    rw [e]
    split
    · exact ⟨0#9, 0#9, rfl, .inl ⟨Nat.zero_lt_succ 2, rfl⟩⟩
    · next hend =>
      refine ⟨_, _, rfl, ?_⟩
      simp only [DrainInv]
      have hbc : ((popped b q s).bc + 1#9).toNat = s.bc.toNat + 1 := toNat_add_one (n := s.bc) (by omega)
      obtain ⟨hlt, hl0⟩ | ⟨hge, hlt, hlo, hhi⟩ := hr
      · exact .inl ⟨by omega, hl0⟩
      · have hne : s.bc.toNat + 1 ≠ l.toNat := fun heq =>
          hend ⟨by bv_omega, BitVec.eq_of_toNat_eq (hbc.trans heq)⟩
        exact .inr (.inr (by omega))

/-- The drain pop keeps the invariant: it drops a frame, counts a byte, or enters the fault (R212). -/
theorem Inv.drainPop {s : State} {b : Byte} {q : List Byte} (h : Inv s) (hg : draining s = true) (hq : s.rxq = b :: q) :
    Inv (drainAfterStore b (popped b q s)) := by
  have hst := popsBytes_of_draining hg
  have hp := h.storage.popped hq (h.bc_lt hst)
  obtain e | ⟨n, l, e, hd⟩ := (h.drainInv hg).afterStore b q <;> rw [e]
  · exact (hp.setCounters _ _).raiseFault hst _
  · have hc : CounterInv { popped b q s with bc := n, tl := l } := by
      simp only [draining, Bool.or_eq_true, beq_iff_eq] at hg
      obtain hst | hst := hg <;> simpa only [CounterInv, popped, hst] using hd
    exact ⟨hp.moves, hc, h.errors, h.retries, hp.buffers, hp.queue⟩

/-- The first nine bytes of an acknowledgement keep the invariant (R215). -/
theorem Inv.ackPop {s : State} {b : Byte} {q : List Byte} (h : Inv s) (hst : s.st = .awaitAck) (hbc : s.bc.toNat < 9)
    (hq : s.rxq = b :: q) : Inv (countPop (popped b q s)) := by
  have hp := h.storage.popped hq (h.bc_lt (.inr (.inl hst)))
  have hn : (s.bc + 1#9).toNat = s.bc.toNat + 1 := toNat_add_one (by omega)
  have hc : CounterInv (countPop (popped b q s)) := by
    simp only [CounterInv, countPop, popped, hst]
    exact ⟨by omega, (h.awaitAck hst).2⟩
  exact ⟨hp.moves, hc, h.errors, h.retries, hp.buffers, hp.queue⟩

/-- The four outcomes of an acknowledgement keep the invariant (R217). -/
theorem Inv.ackOutcome {s : State} {b : Byte} {q : List Byte} (h : Inv s) (hst : s.st = .awaitAck)
    (hq : s.rxq = b :: q) : Inv (ackOutcome (countPop (popped b q s))) := by
  have hpops : popsBytes s.st := .inr (.inl hst)
  have hp := h.storage.popped hq (h.bc_lt hpops)
  have ⟨hm, hb, hqueue⟩ := hp
  have herr : s.err = none := h.err_none (by simp [hst]) (by simp [hst])
  have hret : s.retried = s.retry := h.retried_eq (by simp [hst, St.busy])
  obtain ⟨k, -, e⟩ | ⟨r, -, ⟨-, e⟩ | ⟨-, hr, e⟩ | ⟨-, hr, e⟩⟩ := ackOutcome_cases (countPop (popped b q s)) <;> rw [e]
  · exact (hp.setCounters _ _).raiseFault hpops k
  · exact ⟨hm, .inl ⟨Nat.zero_lt_succ 7, rfl⟩, herr, ⟨fun _ => hret, nofun, fun _ => rfl⟩, hb, hqueue⟩
  · exact ⟨hm, trivial, herr, ⟨fun _ => hret, fun _ => ⟨hr, rfl⟩, nofun⟩, hb, hqueue⟩
  · exact ⟨hm, trivial, ⟨rfl, rfl, hret.trans hr⟩, ⟨nofun, nofun, nofun⟩, hb, hqueue⟩

/-- The pops of a response before its last byte keep the invariant (R220). -/
theorem Inv.rspPop {s : State} {b : Byte} {q : List Byte} (h : Inv s) (hg : accumulatingResponse s = true)
    (hl : lastOfResponse s = false) (hbc : s.bc ≠ 7#9) (hq : s.rxq = b :: q) : Inv (countPop (popped b q s)) := by
  have hst := awaitRsp_of_accumulating hg
  have hp := h.storage.popped hq (h.bc_lt (.inr (.inr (.inl hst))))
  have hc : CounterInv (countPop (popped b q s)) := by
    have hne : s.bc.toNat ≠ 7 := fun e => hbc (BitVec.eq_of_toNat_eq e)
    simp only [lastOfResponse, Bool.and_eq_false_iff, decide_eq_false_iff_not, beq_eq_false_iff_ne] at hl
    simp only [CounterInv, countPop, popped, hst]
    obtain ⟨hlt, htl⟩ | ⟨hge, hlt, hlo, hhi⟩ := h.awaitRsp hst
    · rw [toNat_add_one (by omega)]
      exact .inl ⟨by omega, htl⟩
    · rw [toNat_add_one (by omega)]
      exact .inr (by omega)
  exact ⟨hp.moves, hc, h.errors, h.retries, hp.buffers, hp.queue⟩

/-- The header check keeps the invariant: it takes the frame's length or enters the fault (R220). -/
theorem Inv.rspHeader {s : State} {b : Byte} {q : List Byte} (h : Inv s) (hst : s.st = .awaitRsp) (hbc : s.bc = 7#9)
    (hq : s.rxq = b :: q) : Inv (rspHeaderCheck (countPop (popped b q s))) := by
  have hpops : popsBytes s.st := .inr (.inr (.inl hst))
  have hp := h.storage.popped hq (h.bc_lt hpops)
  obtain ⟨k, -, e⟩ | ⟨n, -, e⟩ := rspHeaderCheck_cases (countPop (popped b q s)) <;> rw [e]
  · exact (hp.setCounters _ _).raiseFault hpops k
  · have hc : CounterInv { countPop (popped b q s) with tl := frameLength n } := by
      have hn := ten_le_frameLength n
      simp only [CounterInv, countPop, popped, hst, hbc]
      exact .inr (by simp; omega)
    exact ⟨hp.moves, hc, h.errors, h.retries, hp.buffers, hp.queue⟩

/-- The body check keeps the invariant: it captures the payload or enters the fault (R221). -/
theorem Inv.rspBody {s : State} {b : Byte} {q : List Byte} (h : Inv s) (hst : s.st = .awaitRsp) (hq : s.rxq = b :: q) :
    Inv (rspBody (countPop (popped b q s))) := by
  have hpops : popsBytes s.st := .inr (.inr (.inl hst))
  have hp := h.storage.popped hq (h.bc_lt hpops)
  have herr : s.err = none := h.err_none (by simp [hst]) (by simp [hst])
  have hret : s.retried = s.retry := h.retried_eq (by simp [hst, St.busy])
  have hneeds : s.needsRetry = false := h.needsRetry_false (.inl hst)
  obtain ⟨k, -, e⟩ | ⟨r, hr, e⟩ := rspBody_cases (countPop (popped b q s)) <;> rw [e]
  · exact (hp.setCounters _ _).raiseFault hpops k
  · exact ⟨hp.moves, trivial, herr, ⟨fun _ => hret, nofun, fun _ => hneeds⟩,
      bufferInv_capture (s := countPop (popped b q s)) hp.buffers hr _, hp.queue⟩

/-- Every move of the engine keeps the invariant. -/
theorem Inv.engineMove {i : Instr} {s t : State} (h : Inv s) (hm : EngineMove i s t) : Inv t := by
  cases hm with
  | rests => exact h
  | drainPop hg hq => exact h.drainPop hg hq
  | ackPop hst hbc hq => exact h.ackPop hst hbc hq
  | ackOutcome hst _ hq => exact h.ackOutcome hst hq
  | rspPop hg hl hbc hq => exact h.rspPop hg hl hbc hq
  | rspHeader hg hbc hq => exact h.rspHeader (awaitRsp_of_accumulating hg) hbc hq
  | rspBody hg _ hq => exact h.rspBody (awaitRsp_of_accumulating hg) hq
  | drainPreDone hst =>
    have herr : s.err = none := h.err_none (by simp [hst]) (by simp [hst])
    have hret : s.retried = s.retry := h.retried_eq (by simp [hst, St.busy])
    exact ⟨h.moves, trivial, herr, ⟨fun _ => hret, nofun, nofun⟩, h.buffers, h.queue⟩
  | sendRequest hst =>
    have herr : s.err = none := h.err_none (by simp [hst]) (by simp [hst])
    have hret : s.retried = s.retry := h.retried_eq (by simp [hst, St.busy])
    exact ⟨h.moves, ⟨Nat.zero_lt_succ 9, rfl⟩, herr, ⟨fun _ => hret, nofun, nofun⟩, h.buffers, h.queue⟩
  | retransmit hst =>
    have herr : s.err = none := h.err_none (by simp [hst]) (by simp [hst])
    exact ⟨h.moves, ⟨Nat.zero_lt_succ 9, rfl⟩, herr, ⟨fun _ => rfl, nofun, nofun⟩, h.buffers, h.queue⟩
  | sendAck hst =>
    have herr : s.err = none := h.err_none (by simp [hst]) (by simp [hst])
    have hret : s.retried = s.retry := h.retried_eq (by simp [hst, St.busy])
    have hneeds : s.needsRetry = false := h.needsRetry_false (.inr (.inl hst))
    exact ⟨h.moves, .inl ⟨Nat.zero_lt_succ 2, rfl⟩, herr, ⟨fun _ => hret, nofun, fun _ => hneeds⟩, h.buffers, h.queue⟩
  | drainPostDone hst =>
    have herr : s.err = none := h.err_none (by simp [hst]) (by simp [hst])
    have hneeds : s.needsRetry = false := h.needsRetry_false (.inr (.inr (.inl hst)))
    exact ⟨h.moves, trivial, herr, ⟨nofun, nofun, fun _ => hneeds⟩, h.buffers, h.queue⟩

/-- A waiting engine is in a state that pops bytes (R227). -/
theorem popsBytes_of_waiting {s : State} (hw : engineWaiting s = true) : popsBytes s.st := by
  simp only [engineWaiting, Bool.and_eq_true, Bool.or_eq_true, beq_iff_eq] at hw
  obtain ⟨-, (hst | hst) | ⟨hst | hst, -⟩⟩ := hw <;> simp [popsBytes, hst]

/-! ### The moves of the other agents -/

/-- An arriving byte keeps the queue within its depth, and overruns a finite queue only (R88). -/
theorem Inv.rxArrive {s : State} (h : Inv s) (b : Byte) : Inv (rxArrive b s) := by
  obtain ⟨hovr, hlen⟩ := (queueInv_iff s).mp h.queue
  obtain ⟨e, hroom⟩ | ⟨d, hd, -, e⟩ := rxArrive_cases b s <;> rw [e]
  · have hq : QueueInv { s with rxq := s.rxq ++ [b] } :=
      (queueInv_iff _).mpr ⟨hovr, fun d hd => by simpa using hroom d hd⟩
    exact ⟨h.moves, h.counters, h.errors, h.retries, h.buffers, hq⟩
  · have hq : QueueInv { s with rxOvr := true } :=
      (queueInv_iff _).mpr ⟨fun hn => (by rw [hd] at hn; cases hn), hlen⟩
    exact ⟨h.moves, h.counters, h.errors, h.retries, h.buffers, hq⟩

theorem Inv.rxArriveAll {s : State} (h : Inv s) (bytes : List Byte) : Inv (rxArriveAll bytes s) := by
  induction bytes generalizing s with
  | nil => exact h
  | cons b bs ih => exact ih (h.rxArrive b)

theorem Inv.txConsume {s : State} (h : Inv s) : Inv (txConsume s) := by
  obtain ⟨_, e⟩ | ⟨b, q, _, e⟩ := txConsume_cases s <;> rw [e]
  · exact h
  · exact ⟨h.moves, h.counters, h.errors, h.retries, h.buffers, h.queue⟩

/-- `CLR` leaves a terminal state with nothing recorded (R293, R326). -/
theorem Inv.commandClr {s : State} (h : Inv s) : Inv (commandClr s) := by
  obtain ⟨_, e⟩ | ⟨_, e⟩ | ⟨_, e⟩ := commandClr_cases s <;> rw [e]
  · exact ⟨h.moves, trivial, rfl, ⟨nofun, nofun, nofun⟩, h.buffers, h.queue.clearOverrun⟩
  · exact ⟨h.moves, h.counters, h.errors, h.retries, h.buffers, h.queue.clearOverrun⟩
  · exact h

/-- `START` enters the drain at a frame boundary with the retry bits clear (R292). -/
theorem Inv.commandStart {s : State} (h : Inv s) : Inv (commandStart s) := by
  obtain ⟨_, e⟩ | ⟨_, e⟩ := commandStart_cases s <;> rw [e]
  · exact ⟨h.moves, .inl ⟨Nat.zero_lt_succ 2, rfl⟩, rfl, ⟨fun _ => rfl, nofun, nofun⟩, h.buffers, h.queue⟩
  · exact h

theorem Inv.commandHcrcInit {s : State} (h : Inv s) : Inv (commandHcrcInit s) :=
  ⟨h.moves, h.counters, h.errors, h.retries, h.buffers, h.queue⟩

theorem Inv.commandIf {f : State → State} {s : State} (h : Inv s) (b : Bool) (hf : Inv (f s)) : Inv (commandIf b f s) := by
  cases b
  exacts [h, hf]

/-- Every move of the host keeps the invariant. -/
theorem Inv.hostMove {i : Instr} {s t : State} (h : Inv s) (hm : HostMove i s t) : Inv t := by
  cases hm with
  | clr => exact h.commandClr.commandIf _ h.commandClr.commandHcrcInit
  | start clr =>
    have hc := h.commandIf clr h.commandClr
    exact (hc.commandIf _ hc.commandHcrcInit).commandStart
  | _ => exact ⟨h.moves, h.counters, h.errors, h.retries, h.buffers, h.queue⟩

/-- Reset gives a good state of any machine whose moves are the hardware's: only the MODEL's own fields are kept (R350). -/
theorem inv_resetKeeping {s : State} (hm : HardwareMoves s) : Inv (resetKeeping s) where
  moves := hm
  counters := trivial
  errors := rfl
  retries := ⟨nofun, nofun, nofun⟩
  buffers := ⟨rfl, rfl, rfl, rfl, Nat.zero_le _, fun a => by simp [resetKeeping, State.reset]⟩
  queue := (queueInv_iff _).mpr ⟨fun _ => rfl, fun d _ => Nat.zero_le d⟩

/-- Every agent's move keeps the invariant. -/
theorem Inv.agentMove {i : Instr} {s t : State} (h : Inv s) (hm : AgentMove i s t) : Inv t := by
  cases hm with
  | host hm => exact h.hostMove hm
  | engine _ hm => exact h.engineMove hm
  | noTimeout => exact h
  | timeout hw => exact h.storage.raiseFault (popsBytes_of_waiting hw) _
  | peer _ bytes => exact h.rxArriveAll bytes
  | transmitter => exact h.txConsume
  | reset => exact inv_resetKeeping h.moves

/-! ### Every step -/

/-- The row that the table of enabled steps names is the engine's (R229). -/
theorem agentOf_engineNext {s : State} {i : Instr} (h : engineNext s = some i) : agentOf i = some .engine := by
  unfold engineNext at h
  repeat' split at h
  all_goals cases h
  all_goals rfl

/-- Taking the first move from the list keeps the invariant. -/
theorem Inv.dropMove {s : State} {m : List Byte} {rest : List (List Byte)} (h : Inv s) (hp : s.pending = m :: rest) :
    Inv { s with pending := rest } where
  moves := fun m' hm' => h.moves m' (by rw [hp]; exact List.mem_cons_of_mem _ hm')
  counters := h.counters
  errors := h.errors
  retries := h.retries
  buffers := h.buffers
  queue := h.queue

/-- Settles O51: a step is a move of an agent on a good state, and every agent's move keeps the invariant. -/
theorem everyStepKeepsGood : Obligations.EveryStepKeepsGood := by
  intro s t h hstep
  cases hp : s.pending with
  | nil =>
    cases hn : engineNext s with
    | none =>
      cases (step_waits hp hn).symm.trans hstep
      exact h
    | some i =>
      have ha : agentOf i ≠ none := by simp [agentOf_engineNext hn]
      exact h.agentMove (agentMove_of_exec ha ((step_engine hp hn).symm.trans hstep))
  | cons m rest =>
    cases hd : decode m with
    | error e => cases (step_undecodable hp hd).symm.trans hstep
    | ok i =>
      have ha : agentOf i ≠ none := h.moves m (by simp [hp]) i hd
      exact (h.dropMove hp).agentMove (agentMove_of_exec ha ((step_decoded hp hd).symm.trans hstep))

/-- Settles O50: the state after reset is what reset makes of it, and no move is left in it. -/
theorem resetIsGood : Obligations.ResetIsGood := inv_resetKeeping (s := State.reset) nofun

end Sys2Proof.Machine
end

section
/-! What stops a machine, and what a move does to the counters, the wire and the interrupt output. -/

namespace Sys2Proof.Machine

/-! ### Stops -/

/-- A row that pops under a guard goes on, or faults at an offset that `FB` does not have (R32, log entry 20). -/
theorem popRow_cases {i : Instr} {g : Bool} {f : Byte → State → State} {s : State} (hg : g = true → popsBytes s.st)
    (h : exec i s = whenEnabled g (enginePop f s) s) :
    (∃ t, exec i s = .next t) ∨
      (exec i s = .fault .fbOutOfRange ∧ popsBytes s.st ∧ Config.frameMax ≤ s.bc.toNat ∧ s.rxq ≠ []) := by
  rw [h]
  cases g with
  | false => exact .inl ⟨s, rfl⟩
  | true =>
    obtain ⟨_, e⟩ | ⟨b, q, _, _, e⟩ | ⟨hq, hb, e⟩ := enginePop_cases f s
    exacts [.inl ⟨_, e⟩, .inl ⟨_, e⟩, .inr ⟨e, hg rfl, hb, hq⟩]

theorem guardedStep_progress (g : Bool) (u s : State) : ∃ t, whenEnabled g (.next u) s = .next t := by
  cases g
  exacts [⟨s, rfl⟩, ⟨u, rfl⟩]

/-- Whatever the row and the state: a next state, a pop past `FB` in a state that pops, or a layout entry that breaks R261. -/
theorem exec_cases (i : Instr) (s : State) :
    (∃ t, exec i s = .next t) ∨
      (exec i s = .fault .fbOutOfRange ∧ popsBytes s.st ∧ Config.frameMax ≤ s.bc.toNat ∧ s.rxq ≠ []) ∨
      (exec i s = .refused .malformedLayoutEntry ∧ agentOf i = none ∧ i.wf = false) := by
  have awaitRsp {last : Bool} (hg : (accumulatingResponse s && last) = true) : popsBytes s.st :=
    .inr (.inr (.inl (awaitRsp_of_accumulating (Bool.and_eq_true _ _ ▸ hg).1)))
  cases i with
  | stepDrainPop => exact or_assoc.mp (.inl (popRow_cases popsBytes_of_draining rfl))
  | stepAckPop =>
    refine or_assoc.mp (.inl (popRow_cases (fun hg => ?_) rfl))
    simp only [Bool.and_eq_true, beq_iff_eq] at hg
    exact .inr (.inl hg.1)
  | stepAckOutcome =>
    refine or_assoc.mp (.inl (popRow_cases (fun hg => ?_) rfl))
    simp only [Bool.and_eq_true, beq_iff_eq] at hg
    exact .inr (.inl hg.1)
  | stepRspPop | stepRspBody => exact or_assoc.mp (.inl (popRow_cases awaitRsp rfl))
  | stepDrainPreDone | stepSendRequest | stepRetransmit | stepSendAck | stepDrainPostDone | stepTimeout =>
    exact .inl (guardedStep_progress _ _ _)
  | fieldUint o w =>
    cases hfit : entryFits o w false with
    | true => exact .inl ⟨_, if_pos hfit⟩
    | false => exact .inr (.inr ⟨if_neg (by simp [hfit]), rfl, by simp [Instr.wf, hfit]⟩)
  | fieldString o w =>
    cases hfit : entryFits o w true with
    | true => exact .inl ⟨_, if_pos hfit⟩
    | false => exact .inr (.inr ⟨if_neg (by simp [hfit]), rfl, by simp [Instr.wf, hfit]⟩)
  | rdPbuf a =>
    obtain ⟨t, ht, _⟩ := exec_host (i := .rdPbuf a) rfl s
    exact .inl ⟨t, ht⟩
  | classifyShape b0 b1 b2 =>
    simp only [exec, execClassifyShape]
    split <;> exact .inl ⟨_, rfl⟩
  | _ => exact .inl ⟨_, rfl⟩

/-- Settles O52: of the two stops that `exec_cases` names, the fault lies beyond every good state's byte counter, and the
refusal is no agent's. -/
theorem nothingStopsAGoodState : Obligations.NothingStopsAGoodState := by
  refine ⟨fun i s h ha => ?progress, fun i s r hr => ?fault, fun i s r hr => ?refusal⟩
  case progress =>
    obtain ht | ⟨_, hst, hb, _⟩ | ⟨_, hnone, _⟩ := exec_cases i s
    · exact ht
    · exact absurd (h.bc_lt hst) (by omega)
    · exact absurd hnone ha
  all_goals obtain ⟨t, e⟩ | ⟨e, _, hb, hq⟩ | ⟨e, _, hwf⟩ := exec_cases i s <;> rw [e] at hr <;> cases hr
  case fault => exact ⟨rfl, hb, hq⟩
  case refusal => exact ⟨rfl, hwf⟩

/-! ### The counters and the wire -/

/-- A move that neither counts nor sends: the counters, the descriptor and the bytes sent or to be sent are as they were. -/
structure Quiet (s t : State) : Prop where
  seq : t.seq = s.seq
  cnt : t.cnt = s.cnt
  desc : t.desc = s.desc
  line : t.line = s.line
  txq : t.txq = s.txq

theorem Quiet.trans {s t u : State} (h : Quiet s t) (h' : Quiet t u) : Quiet s u :=
  ⟨h'.seq.trans h.seq, h'.cnt.trans h.cnt, h'.desc.trans h.desc, h'.line.trans h.line, h'.txq.trans h.txq⟩

theorem quiet_popped (b : Byte) (q : List Byte) (s : State) : Quiet s (popped b q s) := ⟨rfl, rfl, rfl, rfl, rfl⟩

theorem quiet_countPop (b : Byte) (q : List Byte) (s : State) : Quiet s (countPop (popped b q s)) :=
  ⟨rfl, rfl, rfl, rfl, rfl⟩

theorem quiet_drainAfterStore (b : Byte) (s : State) : Quiet s (drainAfterStore b s) := by
  obtain ⟨-, -, e⟩ | ⟨-, x, -, e⟩ | ⟨-, l, -, e⟩ := drainAfterStore_cases b s <;> rw [e]
  · exact ⟨rfl, rfl, rfl, rfl, rfl⟩
  · exact ⟨rfl, rfl, rfl, rfl, rfl⟩
  · split <;> exact ⟨rfl, rfl, rfl, rfl, rfl⟩

theorem quiet_ackOutcome (s : State) : Quiet s (ackOutcome s) := by
  obtain ⟨k, -, e⟩ | ⟨r, -, ⟨-, e⟩ | ⟨-, -, e⟩ | ⟨-, -, e⟩⟩ := ackOutcome_cases s <;> rw [e] <;>
    exact ⟨rfl, rfl, rfl, rfl, rfl⟩

theorem quiet_rspHeaderCheck (s : State) : Quiet s (rspHeaderCheck s) := by
  obtain ⟨k, -, e⟩ | ⟨n, -, e⟩ := rspHeaderCheck_cases s <;> rw [e] <;> exact ⟨rfl, rfl, rfl, rfl, rfl⟩

theorem quiet_rspBody (s : State) : Quiet s (rspBody s) := by
  obtain ⟨k, -, e⟩ | ⟨r, -, e⟩ := rspBody_cases s <;> rw [e] <;> exact ⟨rfl, rfl, rfl, rfl, rfl⟩

theorem quiet_commandIf {f : State → State} (hf : ∀ s, Quiet s (f s)) (b : Bool) (s : State) :
    Quiet s (commandIf b f s) := by
  cases b
  exacts [⟨rfl, rfl, rfl, rfl, rfl⟩, hf s]

theorem quiet_commandHcrcInit (s : State) : Quiet s (commandHcrcInit s) := ⟨rfl, rfl, rfl, rfl, rfl⟩

theorem quiet_commandClr (s : State) : Quiet s (commandClr s) := by constructor <;> simp

theorem quiet_commandStart (s : State) : Quiet s (commandStart s) := by constructor <;> simp

theorem quiet_rxArriveAll (bytes : List Byte) (s : State) : Quiet s (rxArriveAll bytes s) := by
  rw [rxArriveAll_frame]
  exact ⟨rfl, rfl, rfl, rfl, rfl⟩

/-- An engine move is quiet, or sends one frame (R214, R218, R222), or counts the exchange that is done (R223). -/
theorem EngineMove.wire {i : Instr} {s t : State} (hm : EngineMove i s t) :
    Quiet s t ∨
      ((s.st = .requestSent ∨ s.st = .retrying) ∧ t.st = .awaitAck ∧
        Quiet (pushFrame (encodeRequest s.desc.tc s.desc.iid s.desc.cid s.seq s.cnt) s) t) ∨
      (s.st = .rspAcked ∧ t.st = .drainPost ∧ Quiet (pushFrame (encodeAck s.rseq) s) t) ∨
      (i = .stepDrainPostDone ∧ s.st = .drainPost ∧ t.st = .done ∧ Quiet (advanceCounters s) t) := by
  cases hm with
  | rests | drainPreDone => exact .inl ⟨rfl, rfl, rfl, rfl, rfl⟩
  | ackPop | rspPop => exact .inl (quiet_countPop _ _ s)
  | drainPop => exact .inl ((quiet_popped _ _ s).trans (quiet_drainAfterStore _ _))
  | ackOutcome => exact .inl ((quiet_countPop _ _ s).trans (quiet_ackOutcome _))
  | rspHeader => exact .inl ((quiet_countPop _ _ s).trans (quiet_rspHeaderCheck _))
  | rspBody => exact .inl ((quiet_countPop _ _ s).trans (quiet_rspBody _))
  | sendRequest hst => exact .inr (.inl ⟨.inl hst, rfl, rfl, rfl, rfl, rfl, rfl⟩)
  | retransmit hst => exact .inr (.inl ⟨.inr hst, rfl, rfl, rfl, rfl, rfl, rfl⟩)
  | sendAck hst => exact .inr (.inr (.inl ⟨hst, rfl, rfl, rfl, rfl, rfl, rfl⟩))
  | drainPostDone hst => exact .inr (.inr (.inr ⟨rfl, hst, rfl, rfl, rfl, rfl, rfl, rfl⟩))

/-- A host move is quiet, or a protected write while not busy, which sends nothing (R84). -/
theorem HostMove.wire {i : Instr} {s t : State} (hm : HostMove i s t) :
    Quiet s t ∨
      ((s.st.busy = false ∧ ∃ v, i = .wrSeq v ∨ i = .wrCnt v ∨ i = .wrDesc v) ∧ t.line = s.line ∧ t.txq = s.txq) := by
  cases hm with
  | read | writeHostOnly | writeCfg => exact .inl ⟨rfl, rfl, rfl, rfl, rfl⟩
  | writeSeq v hb => exact .inr ⟨⟨hb, v, .inl rfl⟩, rfl, rfl⟩
  | writeCnt v hb => exact .inr ⟨⟨hb, v, .inr (.inl rfl)⟩, rfl, rfl⟩
  | writeDesc v hb => exact .inr ⟨⟨hb, v, .inr (.inr rfl)⟩, rfl, rfl⟩
  | clr init rsv => exact .inl ((quiet_commandClr s).trans (quiet_commandIf quiet_commandHcrcInit init _))
  | start clr init rsv =>
    exact .inl (((quiet_commandIf quiet_commandClr clr s).trans (quiet_commandIf quiet_commandHcrcInit init _)).trans
      (quiet_commandStart _))

/-- Settles O54: only the advance of the last engine step, the protected writes and reset are not quiet to the counters. -/
theorem countersChangeOnlyWhenDone : Obligations.CountersChangeOnlyWhenDone := by
  intro i s t ha h
  cases agentMove_of_exec ha h with
  | host hm =>
    obtain hq | ⟨hw, _⟩ := hm.wire
    exacts [.inl ⟨hq.seq, hq.cnt, hq.desc⟩, .inr (.inr (.inl hw))]
  | engine _ hm =>
    obtain hq | ⟨-, -, hq⟩ | ⟨-, -, hq⟩ | ⟨hi, hs, ht, hq⟩ := hm.wire
    · exact .inl ⟨hq.seq, hq.cnt, hq.desc⟩
    · exact .inl ⟨hq.seq, hq.cnt, hq.desc⟩
    · exact .inl ⟨hq.seq, hq.cnt, hq.desc⟩
    · exact .inr (.inl ⟨hi, hs, ht, hq.seq, hq.cnt, hq.desc⟩)
  | noTimeout | timeout => exact .inl ⟨rfl, rfl, rfl⟩
  | peer _ bytes =>
    have hq := quiet_rxArriveAll bytes s
    exact .inl ⟨hq.seq, hq.cnt, hq.desc⟩
  | transmitter => exact .inl ⟨txConsume_seq s, txConsume_cnt s, txConsume_desc s⟩
  | reset => exact .inr (.inr (.inr rfl))

/-- The transmitter only moves the head of `TXQ` to the line (R89). -/
theorem txConsume_wire (s : State) : (txConsume s).line ++ (txConsume s).txq = s.line ++ s.txq := by
  obtain ⟨_, e⟩ | ⟨b, q, hq, e⟩ := txConsume_cases s <;> rw [e]
  simp [hq]

/-- Settles O55: a frame is pushed by the three sending rows of the engine, and every other move is quiet or the
transmitter's. -/
theorem onlyWholeFramesAreSent : Obligations.OnlyWholeFramesAreSent := by
  intro i s t ha hne h
  cases agentMove_of_exec ha h with
  | host hm =>
    obtain hq | ⟨-, hl, hx⟩ := hm.wire
    exacts [.inl (by rw [hq.line, hq.txq]), .inl (by rw [hl, hx])]
  | engine _ hm =>
    obtain hq | ⟨hs, ht, hq⟩ | ⟨hs, ht, hq⟩ | ⟨-, -, -, hq⟩ := hm.wire
    · exact .inl (by rw [hq.line, hq.txq])
    · exact .inr (.inl ⟨hs, ht, by rw [hq.line, hq.txq]; simp [pushFrame]⟩)
    · exact .inr (.inr ⟨hs, ht, by rw [hq.line, hq.txq]; simp [pushFrame]⟩)
    · exact .inl (by rw [hq.line, hq.txq]; rfl)
  | noTimeout | timeout => exact .inl rfl
  | peer _ bytes =>
    have hq := quiet_rxArriveAll bytes s
    exact .inl (by rw [hq.line, hq.txq])
  | transmitter => exact .inl (txConsume_wire s)
  | reset => exact absurd rfl hne

/-! ### The interrupt output -/

theorem St.terminal_iff (x : St) : x.terminal = true ↔ x = .done ∨ x = .aborted ∨ x = .faulted := by
  cases x <;> simp [St.terminal]

@[simp] theorem commandIf_true (f : State → State) (s : State) : commandIf true f s = f s := rfl

@[simp] theorem commandIf_false (f : State → State) (s : State) : commandIf false f s = s := rfl

@[simp] theorem irq_commandHcrcInit (s : State) : irq (commandHcrcInit s) = irq s := rfl

@[simp] theorem irq_commandIf_hcrcInit (b : Bool) (s : State) : irq (commandIf b commandHcrcInit s) = irq s := by
  cases b <;> rfl

/-- `CLR` leaves no terminal state, from wherever it is written (R293). -/
@[simp] theorem irq_commandClr (s : State) : irq (commandClr s) = false := by
  obtain ⟨_, e⟩ | ⟨hst, e⟩ | ⟨hb, e⟩ := commandClr_cases s <;> rw [e]
  · simp [irq, St.terminal]
  · simp [irq, St.terminal, hst]
  · cases hst : s.st <;> simp_all [irq, St.terminal, St.busy]

/-- `START` acts between two states that are not terminal (R292). -/
@[simp] theorem irq_commandStart (s : State) : irq (commandStart s) = irq s := by
  obtain ⟨hst, e⟩ | ⟨_, e⟩ := commandStart_cases s <;> rw [e]
  simp [irq, St.terminal, hst]

/-- What each agent's move does to the interrupt output: nothing, unless it is an engine row or the timeout outside a terminal
state, a write of `CFG`, or one of the moves that leave it 0. -/
theorem irq_cases {i : Instr} {s t : State} (ha : agentOf i ≠ none) (h : exec i s = .next t) :
    irq t = irq s ∨
      ((isEngineStep i = true ∨ i = .stepTimeout) ∧ s.st.terminal = false ∧ t.cfg = s.cfg) ∨
      (∃ v, i = .wrCfg v ∧ t = { s with cfg := cfgOf v }) ∨
      (irq t = false ∧ ((∃ init rsv, i = .clr init rsv) ∨ (∃ init rsv, i = .start true init rsv) ∨ i = .reset)) := by
  have engineRow (hi : isEngineStep i = true ∨ i = .stepTimeout) :
      irq t = irq s ∨ ((isEngineStep i = true ∨ i = .stepTimeout) ∧ s.st.terminal = false ∧ t.cfg = s.cfg) := by
    obtain ⟨hcfg, rfl | hst⟩ := engine_rows_cfg hi h
    exacts [.inl rfl, .inr ⟨hi, hst, hcfg⟩]
  cases agentMove_of_exec ha h with
  | host hm =>
    cases hm with
    | read | writeHostOnly | writeSeq | writeCnt | writeDesc => exact .inl rfl
    | writeCfg v => exact .inr (.inr (.inl ⟨v, rfl, rfl⟩))
    | clr init rsv => exact .inr (.inr (.inr ⟨by simp, .inl ⟨init, rsv, rfl⟩⟩))
    | start clr init rsv =>
      cases clr with
      | true => exact .inr (.inr (.inr ⟨by simp, .inr (.inl ⟨init, rsv, rfl⟩)⟩))
      | false => exact .inl (by simp)
  | engine hi => exact or_assoc.mp (.inl (engineRow (.inl hi)))
  | noTimeout | timeout => exact or_assoc.mp (.inl (engineRow (.inr rfl)))
  | peer _ bytes => exact .inl (by rw [rxArriveAll_frame]; rfl)
  | transmitter => exact .inl (by simp [irq])
  | reset => exact .inr (.inr (.inr ⟨rfl, .inr (.inr rfl)⟩))

/-- Settles O60, clause by clause: the level is `irq` unfolded, the edges are the cases of `irq_cases`. -/
theorem interruptOutput : Obligations.InterruptOutput := by
  refine ⟨fun s => ?level, fun s t hst hie => ?noOther, fun v s => ?cfg, fun init rsv s => ?clr, fun s => ?reset,
    fun i s t hi h hie hst => ?engine, fun i s t hi h => ?edges⟩
  case level => simp [irq, St.terminal_iff]
  case noOther => simp [irq, hst, hie]
  case cfg => exact ⟨_, rfl, by simp [irq, cfgOf]⟩
  case clr => exact ⟨_, rfl, by simp⟩
  case reset => exact ⟨_, rfl, rfl⟩
  case engine =>
    obtain ⟨hcfg, -⟩ := engine_rows_cfg hi h
    simp [irq, hcfg, hie, hst]
  case edges =>
    have ha : agentOf i ≠ none := by
      obtain ⟨ha, _⟩ | ⟨b, rfl⟩ := hi
      exacts [ha, nofun]
    obtain e | ⟨hrow, hst, hcfg⟩ | ⟨v, rfl, rfl⟩ | ⟨e, hwho⟩ := irq_cases ha h
    · rw [e]
      exact ⟨fun h0 h1 => Bool.noConfusion (h0.symm.trans h1), fun h1 h0 => Bool.noConfusion (h0.symm.trans h1)⟩
    · have hs : irq s = false := by simp [irq, hst]
      refine ⟨fun _ ht => .inl ⟨hrow, ?_⟩, by simp [hs]⟩
      simpa [irq, hcfg, hst] using ht
    · have hs : irq s = (s.cfg.ie && s.st.terminal) := rfl
      have ht : irq { s with cfg := cfgOf v } = (v.getLsbD 0 && s.st.terminal) := rfl
      rw [hs, ht]
      refine ⟨fun _ hon => .inr ?_, fun hon hoff => .inr (.inr (.inl ⟨v, rfl, ?_⟩))⟩
      · simp only [Bool.and_eq_true] at hon
        exact ⟨hon.2, v, rfl, hon.1⟩
      · simp only [Bool.and_eq_true] at hon
        simpa [hon.2] using hoff
    · refine ⟨by simp [e], fun _ _ => ?_⟩
      obtain hclr | hstart | hreset := hwho
      exacts [.inl hclr, .inr (.inl hstart), .inr (.inr (.inr hreset))]

end Sys2Proof.Machine
end

section
/-! The registers that only the host and the decoder use never bear on an exchange: a write of them commutes with every move of
the engine, the timeout, the peer and the transmitter. -/

namespace Sys2Proof.Machine

/-! ### What such a write leaves alone -/

section
variable (k : BitVec 3) (f : BitVec 5) (r u x : Word) (h : Half) (s : State)

@[simp] theorem withHostOnly_bc : (withHostOnly k f r u x h s).bc = s.bc := rfl
@[simp] theorem withHostOnly_tl : (withHostOnly k f r u x h s).tl = s.tl := rfl
@[simp] theorem withHostOnly_retry : (withHostOnly k f r u x h s).retry = s.retry := rfl
@[simp] theorem withHostOnly_seq : (withHostOnly k f r u x h s).seq = s.seq := rfl
@[simp] theorem withHostOnly_cnt : (withHostOnly k f r u x h s).cnt = s.cnt := rfl
@[simp] theorem withHostOnly_desc : (withHostOnly k f r u x h s).desc = s.desc := rfl
@[simp] theorem withHostOnly_rxq : (withHostOnly k f r u x h s).rxq = s.rxq := rfl
@[simp] theorem withHostOnly_txq : (withHostOnly k f r u x h s).txq = s.txq := rfl
@[simp] theorem withHostOnly_rxDepth : (withHostOnly k f r u x h s).rxDepth = s.rxDepth := rfl
@[simp] theorem fbByte_withHostOnly : fbByte (withHostOnly k f r u x h s) = fbByte s := rfl

end

/-- A function that writes `KIND`, `FSEL`, `SUM_REM`, `SUM_FULL`, `SUM_STATE` and `HCRC`, and nothing else. -/
def HostOnlyWrite (w : State → State) : Prop := ∃ k f r u x h, w = withHostOnly k f r u x h

/-! ### The write before an operation is the write after it -/

section
variable {w : State → State} (hw : HostOnlyWrite w)
include hw

theorem drainAfterStore_hostOnly (b : Byte) (s : State) : drainAfterStore b (w s) = w (drainAfterStore b s) := by
  obtain ⟨k, f, r, u, x, h, rfl⟩ := hw
  unfold drainAfterStore
  rw [withHostOnly_bc, withHostOnly_tl, fbByte_withHostOnly]
  dsimp only
  repeat' split
  all_goals rfl

theorem ackOutcome_hostOnly (s : State) : ackOutcome (w s) = w (ackOutcome s) := by
  obtain ⟨k, f, r, u, x, h, rfl⟩ := hw
  unfold ackOutcome
  rw [withHostOnly_seq, withHostOnly_retry, fbByte_withHostOnly]
  dsimp only
  repeat' split
  all_goals rfl

theorem rspHeaderCheck_hostOnly (s : State) : rspHeaderCheck (w s) = w (rspHeaderCheck s) := by
  obtain ⟨k, f, r, u, x, h, rfl⟩ := hw
  simp only [rspHeaderCheck, fbByte_withHostOnly]
  split <;> rfl

theorem rspBody_hostOnly (s : State) : rspBody (w s) = w (rspBody s) := by
  obtain ⟨k, f, r, u, x, h, rfl⟩ := hw
  simp only [rspBody, fbByte_withHostOnly, withHostOnly_desc, withHostOnly_cnt]
  split <;> rfl

theorem countPop_hostOnly (s : State) : countPop (w s) = w (countPop s) := by
  obtain ⟨k, f, r, u, x, h, rfl⟩ := hw
  rfl

theorem rxArrive_hostOnly (b : Byte) (s : State) : rxArrive b (w s) = w (rxArrive b s) := by
  obtain ⟨k, f, r, u, x, h, rfl⟩ := hw
  unfold rxArrive
  rw [withHostOnly_rxDepth, withHostOnly_rxq]
  repeat' split
  all_goals rfl

theorem rxArriveAll_hostOnly (bytes : List Byte) (s : State) : rxArriveAll bytes (w s) = w (rxArriveAll bytes s) := by
  induction bytes generalizing s with
  | nil => rfl
  | cons b bs ih =>
    calc rxArriveAll (b :: bs) (w s)
      _ = rxArriveAll bs (w (rxArrive b s)) := congrArg (rxArriveAll bs) (rxArrive_hostOnly hw b s)
      _ = w (rxArriveAll (b :: bs) s) := ih (rxArrive b s)

theorem txConsume_hostOnly (s : State) : txConsume (w s) = w (txConsume s) := by
  obtain ⟨k, f, r, u, x, h, rfl⟩ := hw
  simp only [txConsume, withHostOnly_txq]
  split <;> rfl

/-- A pop commutes with the write if what follows the pop does. -/
theorem enginePop_hostOnly {p : Byte → State → State} (hp : ∀ b s, p b (w s) = w (p b s)) (s : State) :
    enginePop p (w s) = mapNext w (enginePop p s) := by
  have hrxq : (w s).rxq = s.rxq := by obtain ⟨k, f, r, u, x, h, rfl⟩ := hw; rfl
  have hstore (b : Byte) (q : List Byte) : storePopped b q (w s) = (storePopped b q s).map w := by
    obtain ⟨k, f, r, u, x, h, rfl⟩ := hw
    unfold storePopped
    rw [withHostOnly_bc]
    split <;> rfl
  simp only [enginePop, hrxq, hstore]
  cases s.rxq with
  | nil => rfl
  | cons b q => cases hq : storePopped b q s <;> simp [hq, hp, mapNext]

end

/-- A guarded step commutes with a function on states if the step does. -/
theorem whenEnabled_mapNext (w : State → State) (g : Bool) (o : Host.Outcome State Fault Refusal) (s : State) :
    whenEnabled g (mapNext w o) (w s) = mapNext w (whenEnabled g o s) := by
  cases g <;> rfl

/-- A guarded plain step commutes with a function on states if the state it leads to does. -/
theorem guardedStep_mapNext {w : State → State} {s v v' : State} {g : Bool} (hv : v' = w v) :
    whenEnabled g (.next v') (w s) = mapNext w (whenEnabled g (.next v) s) := by
  rw [hv]
  exact whenEnabled_mapNext w g (.next v) s

/-- A guarded pop commutes with the write if what follows the pop does. -/
theorem guardedPop_hostOnly {w : State → State} (hw : HostOnlyWrite w) {p : Byte → State → State}
    (hp : ∀ b s, p b (w s) = w (p b s)) (g : Bool) (s : State) :
    whenEnabled g (enginePop p (w s)) (w s) = mapNext w (whenEnabled g (enginePop p s) s) := by
  rw [enginePop_hostOnly hw hp, whenEnabled_mapNext]

/-- The engine's rows commute with the write: the guards do not read what it writes, and the steps neither. -/
theorem exec_engine_hostOnly {i : Instr} (hi : agentOf i = some .engine) {w : State → State} (hw : HostOnlyWrite w)
    (s : State) : exec i (w s) = mapNext w (exec i s) := by
  have hguard : draining (w s) = draining s ∧ accumulatingResponse (w s) = accumulatingResponse s ∧
      lastOfResponse (w s) = lastOfResponse s ∧ (w s).st = s.st ∧ (w s).bc = s.bc := by
    obtain ⟨k, f, r, u, x, h, rfl⟩ := hw
    exact ⟨rfl, rfl, rfl, rfl, rfl⟩
  obtain ⟨hdrain, hacc, hlast, hst, hbc⟩ := hguard
  cases i with
  | stepDrainPop =>
    simp only [exec, execStepDrainPop, hdrain]
    exact guardedPop_hostOnly hw (drainAfterStore_hostOnly hw) _ s
  | stepAckPop =>
    simp only [exec, execStepAckPop, hst, hbc]
    exact guardedPop_hostOnly hw (fun _ t => countPop_hostOnly hw t) _ s
  | stepAckOutcome =>
    simp only [exec, execStepAckOutcome, hst, hbc]
    refine guardedPop_hostOnly hw (fun _ t => ?_) _ s
    rw [countPop_hostOnly hw, ackOutcome_hostOnly hw]
  | stepRspPop =>
    simp only [exec, execStepRspPop, hacc, hlast]
    refine guardedPop_hostOnly hw (fun _ t => ?_) _ s
    have ht : (w t).bc = t.bc := by obtain ⟨k, f, r, u, x, h, rfl⟩ := hw; rfl
    rw [ht, countPop_hostOnly hw, rspHeaderCheck_hostOnly hw]
    split <;> rfl
  | stepRspBody =>
    simp only [exec, execStepRspBody, hacc, hlast]
    refine guardedPop_hostOnly hw (fun _ t => ?_) _ s
    rw [countPop_hostOnly hw, rspBody_hostOnly hw]
  | stepDrainPreDone | stepSendRequest | stepRetransmit | stepSendAck | stepDrainPostDone =>
    obtain ⟨k, f, r, u, x, h, rfl⟩ := hw
    exact guardedStep_mapNext rfl
  | _ => cases hi

/-- Settles O56: agent by agent, a write of the registers of R24, R50 and R51 commutes with the row. -/
theorem exchangeIgnoresHostOnlyRegisters : Obligations.ExchangeIgnoresHostOnlyRegisters := by
  intro i s k f r u x h ha
  have hw : HostOnlyWrite (withHostOnly k f r u x h) := ⟨k, f, r, u, x, h, rfl⟩
  obtain ha | ha | ha | ha := ha
  · exact exec_engine_hostOnly ha hw s
  · obtain rfl := eq_stepTimeout_of_agent ha
    exact guardedStep_mapNext rfl
  · obtain ⟨bytes, hb⟩ := exec_peer ha
    rw [hb, hb, rxArriveAll_hostOnly hw]
    rfl
  · obtain rfl := eq_txConsume_of_agent ha
    exact congrArg Host.Outcome.next (txConsume_hostOnly hw s)

end Sys2Proof.Machine
end

section
/-! Single rows and words: the status and error words, the plain stores, the state-code rows, the payload buffer, reset. -/

namespace Sys2Proof.Machine

/-! ### The status word (R44) -/

/-- The eight flags, from bit 0 up. -/
theorem statusWord_flags (s : State) :
    (statusWord s).getLsbD 0 = s.st.busy ∧ (statusWord s).getLsbD 1 = (s.st == .done) ∧
      (statusWord s).getLsbD 2 = (s.st == .aborted) ∧ (statusWord s).getLsbD 3 = (s.st == .faulted) ∧
      (statusWord s).getLsbD 4 = s.retried ∧ (statusWord s).getLsbD 5 = s.needsRetry ∧
      (statusWord s).getLsbD 6 = rxAvail s ∧ (statusWord s).getLsbD 7 = s.rxOvr := by
  unfold statusWord
  repeat rw [BitVec.getLsbD_append]
  simp

/-- The outcome bits as a word of their own. -/
theorem statusWord_outcome (s : State) :
    (statusWord s).extractLsb' 0 4 =
      BitVec.ofBool (s.st == .faulted) ++ BitVec.ofBool (s.st == .aborted) ++ BitVec.ofBool (s.st == .done) ++
        BitVec.ofBool s.st.busy := by
  unfold statusWord
  ext i hi
  rw [BitVec.getElem_extractLsb']
  repeat rw [BitVec.getLsbD_append]
  grind

theorem statusWord_code (s : State) : (statusWord s).extractLsb' 8 4 = s.st.code := by
  unfold statusWord
  ext i hi
  rw [BitVec.getElem_extractLsb']
  repeat rw [BitVec.getLsbD_append]
  grind

theorem statusWord_reserved (s : State) : (statusWord s).extractLsb' 12 20 = 0#20 := by
  unfold statusWord
  ext i hi
  rw [BitVec.getElem_extractLsb']
  repeat rw [BitVec.getLsbD_append]
  grind

theorem St.busy_iff_code (x : St) : x.busy = true ↔ 1 ≤ x.code.toNat ∧ x.code.toNat ≤ 7 := by
  cases x <;> decide

/-- Settles O26: the word is read off field by field; which outcome bits stand together is a look at each state. -/
theorem statusReadsEveryBit : Obligations.StatusReadsEveryBit := by
  refine ⟨rfl, fun s => ⟨statusWord s, rfl, ?_⟩⟩
  obtain ⟨hbusy, hdone, haborted, hfaulted, hretried, hneeds, havail, hovr⟩ := statusWord_flags s
  rw [hbusy, hdone, haborted, hfaulted, havail, statusWord_outcome, St.busy_iff_code]
  refine ⟨.rfl, beq_iff_eq, beq_iff_eq, beq_iff_eq, hretried, hneeds, by simp [rxAvail], hovr, statusWord_code s,
    statusWord_reserved s, ?_⟩
  cases s.st <;> decide

/-! ### The error word (R45) -/

theorem errWord_fields (r : ErrRecord) :
    (errWord (some r)).extractLsb' 0 4 = r.kind.code ∧ (errWord (some r)).extractLsb' 4 4 = r.stage.code ∧
      (errWord (some r)).extractLsb' 8 24 = 0#24 := by
  unfold errWord
  refine ⟨?_, ?_, ?_⟩ <;> ext i hi <;> rw [BitVec.getElem_extractLsb'] <;> repeat rw [BitVec.getLsbD_append]
  all_goals grind

/-- No recorded kind has the code of an empty `ERR` (R310, R317). -/
theorem ErrKind.code_ne_zero (k : ErrKind) : k.code ≠ 0#4 := by
  cases k with
  | fatal k => cases k <;> decide
  | ackRetryExhausted => decide

/-- Settles O27, from the fields of the word; a recorded word is not 0 because its kind's code is not. -/
theorem errReadsKindAndStage : Obligations.ErrReadsKindAndStage := by
  refine ⟨fun s h => ?none, fun s r h => ?some, rfl, rfl⟩
  case none => simp [exec, execRdErr, hostReturns, errWord, h]
  case some =>
    obtain ⟨hkind, hstage, hrsv⟩ := errWord_fields r
    refine ⟨errWord (some r), by simp [exec, execRdErr, hostReturns, h], hkind, hstage, hrsv, fun h0 => ?_⟩
    rw [h0] at hkind
    exact r.kind.code_ne_zero hkind.symm

/-! ### Rows -/

/-- Settles O20: each row's store is its meaning, the named bits read as the helper of that register reads them. -/
theorem plainHostWrites : Obligations.PlainHostWrites :=
  fun _ _ => ⟨rfl, rfl, rfl, rfl, rfl, rfl, fun _ => rfl⟩

/-- A code without a label gives the kind of `UnknownStateCode` and the flag at bit 8 (R275). -/
theorem labelWord_unknown {v : Word} (h : isKnownState v = false) : labelWord v = 0x00006100#32 := by
  simp only [labelWord, h]
  rfl

/-- Settles O31: the six labelled codes are evaluated; a well-formed row of any other code has none of them. -/
theorem stateCodeRows : Obligations.StateCodeRows := by
  refine fun s => ⟨rfl, rfl, rfl, rfl, rfl, rfl, fun v hv => ?_⟩
  have hu : isKnownState v = false := by simpa [Instr.wf] using hv
  simp [exec, execStateUnknown, opReturns, labelWord_unknown hu]

/-- A read of `PBUF` returns the byte below `PLEN`, and a free value past it (R27, R290; log entry 10). -/
theorem exec_rdPbuf {i : Byte} (s : State) (hi : i.toNat < 247) :
    exec (.rdPbuf i) s = .next (if i.toNat < s.plen.toNat then { s with rdata := (pbufByte s i.toNat).zeroExtend 32 }
      else { s with rdata := (Config.freeByte s.draws).zeroExtend 32, draws := s.draws + 1 }) := by
  have hsize : ¬ Config.pbufSize ≤ i.toNat := by simpa [Config.pbufSize] using hi
  simp only [exec, execRdPbuf, hsize, if_false, pbufSpecified, decide_eq_true_eq]
  split <;> rfl

/-- Settles O32, by the two cases of the read. -/
theorem payloadBufferReads : Obligations.PayloadBufferReads := by
  refine ⟨fun i b s hi hp hb => ?specified, fun i s hi => ?any⟩
  case specified => rw [exec_rdPbuf s hi, if_pos hp, pbufByte, Memory.byteAt_of_read hb]
  case any =>
    rw [exec_rdPbuf s hi]
    split
    exacts [⟨_, s.draws, rfl⟩, ⟨_, _, rfl⟩]

/-- The status word after reset is that of the power-on state: reset keeps nothing that it reads. -/
theorem statusWord_resetKeeping (s : State) : statusWord (resetKeeping s) = 0#32 :=
  calc statusWord (resetKeeping s)
    _ = statusWord State.reset := rfl
    _ = 0#32 := rfl

/-- Settles O47: both states are `State.reset` in every register of the spec. -/
theorem resetValues : Obligations.ResetValues := by
  refine fun s => ⟨resetKeeping s, rfl, fun u hu => ?_⟩
  have hword : statusWord u = 0#32 := by
    obtain rfl | rfl := hu
    exacts [statusWord_resetKeeping s, statusWord_resetKeeping State.reset]
  obtain rfl | rfl := hu <;>
    exact ⟨rfl, rfl, rfl, rfl, rfl, rfl, rfl, rfl, rfl, rfl, rfl, rfl, rfl, rfl, rfl, rfl, rfl, rfl, rfl, rfl, rfl, rfl,
      rfl, hword⟩

end Sys2Proof.Machine
end

section
/-! The queues and the protected registers: what one arrival does, what the arrivals of a whole frame do at a finite depth, and
what a write does while the engine is busy. -/

namespace Sys2Proof.Machine

/-! ### One byte (R88, R89) -/

theorem rxArrive_of_room (b : Byte) {s : State} (h : ∀ d, s.rxDepth = some d → s.rxq.length < d) :
    rxArrive b s = { s with rxq := s.rxq ++ [b] } := by
  obtain ⟨e, -⟩ | ⟨d, hd, hfull, -⟩ := rxArrive_cases b s
  · exact e
  · exact absurd (h d hd) (by omega)

theorem rxArrive_of_full (b : Byte) {s : State} {d : Nat} (hd : s.rxDepth = some d) (h : d ≤ s.rxq.length) :
    rxArrive b s = { s with rxOvr := true } := by
  obtain ⟨-, hroom⟩ | ⟨_, -, -, e⟩ := rxArrive_cases b s
  · exact absurd (hroom d hd) (by omega)
  · exact e

theorem txConsume_of_empty {s : State} (h : s.txq = []) : txConsume s = s := by
  simp [txConsume, h]

theorem txConsume_of_cons {s : State} {b : Byte} {q : List Byte} (h : s.txq = b :: q) :
    txConsume s = { s with txq := q, line := s.line ++ [b] } := by
  simp [txConsume, h]

/-- Settles O9: an arrival finds room or a full queue, and the transmitter finds a byte or none. -/
theorem queueEnds : Obligations.QueueEnds := by
  refine ⟨fun b s h => ?room, fun b s d hd h => ?full, fun b q s h => ?byte, fun s h => ?empty⟩
  case room => exact congrArg Host.Outcome.next (rxArrive_of_room b h)
  case full => exact congrArg Host.Outcome.next (rxArrive_of_full b hd h)
  case byte => exact congrArg Host.Outcome.next (txConsume_of_cons h)
  case empty => exact congrArg Host.Outcome.next (txConsume_of_empty h)

/-! ### A whole frame (R75, R88) -/

/-- Everything the arrival of a byte sequence does with a queue of depth `d`: the queue never loses what it holds, so it ends
cut to `d` bytes or to its own length, whichever is more. -/
theorem rxArriveAll_bounded (bytes : List Byte) (s : State) {d : Nat} (hd : s.rxDepth = some d) :
    rxArriveAll bytes s = { s with
      rxq := (s.rxq ++ bytes).take (max d s.rxq.length)
      rxOvr := s.rxOvr || decide (max d s.rxq.length < s.rxq.length + bytes.length) } := by
  induction bytes generalizing s with
  | nil =>
    have htake : s.rxq.take (max d s.rxq.length) = s.rxq := List.take_of_length_le (Nat.le_max_right _ _)
    simp [rxArriveAll, htake]
  | cons b bs ih =>
    have hcons : rxArriveAll (b :: bs) s = rxArriveAll bs (rxArrive b s) := rfl
    have hdepth : (rxArrive b s).rxDepth = some d := (rxArrive_rxDepth b s).trans hd
    obtain hroom | hfull := Nat.lt_or_ge s.rxq.length d
    · have hmax : max d s.rxq.length = d := Nat.max_eq_left hroom.le
      have hmax' : max d (s.rxq.length + 1) = d := Nat.max_eq_left hroom
      rw [hcons, ih _ hdepth, rxArrive_of_room b (by simpa [hd] using hroom)]
      simp [hmax, hmax', Nat.add_assoc, Nat.add_comm 1]
    · rw [hcons, ih _ hdepth, rxArrive_of_full b hd hfull]
      simp [Nat.max_eq_right hfull]

/-- A row that brings bytes brings exactly its frame's bytes, one after another. -/
theorem exec_of_arrivingBytes {i : Instr} {bytes : List Byte} (h : arrivingBytes i = some bytes) (s : State) :
    exec i s = .next (rxArriveAll bytes s) := by
  cases i with
  | frameHead | req | rsp | ack | nak | ackOther | ctl | rxArrive =>
    cases h
    rfl
  | _ => cases h

/-- Settles O10: the frame's bytes arrive one after another, at an unbounded queue or at one of depth `d`. -/
theorem framesArriveInOrder : Obligations.FramesArriveInOrder := by
  refine fun i bytes s h => ⟨fun hdepth => ?unbounded, fun d hdepth => ?bounded⟩
  case unbounded => rw [exec_of_arrivingBytes h, rxArriveAll_unbounded bytes s hdepth]
  case bounded => rw [exec_of_arrivingBytes h, rxArriveAll_bounded bytes s hdepth]

/-! ### The protected registers (R84) -/

theorem writeUnlessBusy_of_not_busy (f : State → State) {s : State} (h : s.st.busy = false) : writeUnlessBusy f s = f s := by
  simp [writeUnlessBusy, h]

theorem writeUnlessBusy_of_busy (f : State → State) {s : State} (h : s.st.busy = true) : writeUnlessBusy f s = s := by
  simp [writeUnlessBusy, h]

/-- Settles O21: the three rows are one protected write each, with the register's store. -/
theorem busyProtectsCountersAndDescriptor : Obligations.BusyProtectsCountersAndDescriptor := by
  refine fun v s => ⟨fun hnot => ?stored, fun hbusy => ?ignored, St.busy_iff_code s.st⟩
  case stored =>
    refine ⟨?_, ?_, ?_⟩ <;> exact congrArg Host.Outcome.next (writeUnlessBusy_of_not_busy _ hnot)
  case ignored =>
    refine ⟨?_, ?_, ?_⟩ <;> exact congrArg Host.Outcome.next (writeUnlessBusy_of_busy _ hbusy)

end Sys2Proof.Machine
end

section
/-! The encoding: what the decoder reads from an instruction's move, and which move an instruction came from. -/

namespace Sys2Proof

/-! ### The row of a word -/

theorem decodeCtrlWrite_start (clr init : Bool) (rsv : BitVec 29) :
    decodeCtrlWrite (ctrlWord true clr init rsv) = .start clr init rsv := by simp [decodeCtrlWrite]

theorem decodeCtrlWrite_clr (init : Bool) (rsv : BitVec 29) :
    decodeCtrlWrite (ctrlWord false true init rsv) = .clr init rsv := by simp [decodeCtrlWrite]

theorem decodeCtrlWrite_hcrcInit (rsv : BitVec 29) :
    decodeCtrlWrite (ctrlWord false false true rsv) = .hcrcInit rsv := by simp [decodeCtrlWrite]

/-- A `CTRL` write with no command bit is ignored (R112, R291). -/
theorem decodeCtrlWrite_of_no_command {v : Word} (h : v.extractLsb' 0 3 = 0#3) :
    decodeCtrlWrite v = .wrIgnored 0x000#12 v := by
  have hbit (j : Nat) (hj : j < 3) : v.getLsbD j = false := by
    simpa [hj] using congrArg (fun x : BitVec 3 => x.getLsbD j) h
  simp only [decodeCtrlWrite, hbit 0, hbit 1, hbit 2, Nat.reduceLT, Bool.false_eq_true, if_false]

theorem decodeWrite_of_not_writable {n : RegNum} (v : Word) (h : isWritable n = false) :
    decodeWrite n v = .wrIgnored n v := by
  simp_all [decodeWrite, isWritable]

theorem decodeRead_of_not_readable {n : RegNum} (h : isReadable n = false) : decodeRead n = .rdOther n := by
  simp_all [decodeRead, isReadable]

theorem decodeRead_of_pbuf {n : RegNum} (hlo : 0x100 ≤ n.toNat) (hhi : n.toNat ≤ 0x1F6) :
    decodeRead n = .rdPbuf (regLo n) := by
  have hne (k : RegNum) (hk : k.toNat < 0x100) : n ≠ k := fun h => by rw [h] at hlo; omega
  simp (disch := decide) only [decodeRead, hne, if_false, hlo, hhi, and_self, if_true]

theorem regOf_one_toNat (i : Byte) : (regOf i 1#8).toNat = 0x100 + i.toNat :=
  calc (regOf i 1#8).toNat
    _ = 1 <<< 8 ||| i.toNat := BitVec.toNat_append ..
    _ = 0x100 + i.toNat := (Nat.two_pow_add_eq_or_of_lt i.isLt 1).symm

/-- A word that is no row of its own is the row of a generic field, which its string bit names (R113, R118). -/
theorem decodeLayoutWord_field {o w : Byte} {e : Bool} (h : isKnownLayoutWord (layoutWord o w e) = false) :
    decodeLayoutWord (layoutWord o w e) = if e then .fieldString o w else .fieldUint o w := by
  simp_all [decodeLayoutWord, isKnownLayoutWord]

/-- Every row with a word of its own is an integer (R266, R269). -/
theorem isKnownLayoutWord_string (o w : Byte) : isKnownLayoutWord (layoutWord o w true) = false := by
  have hne (k : BitVec 17) (hk : k[16] = false) : layoutWord o w true ≠ k := fun h => by
    simpa [h, hk] using layoutWord_enc o w true
  simp [isKnownLayoutWord, hne]

theorem decodeStateWord_unknown {v : Word} (h : isKnownState v = false) : decodeStateWord v = .stateUnknown v := by
  simp_all [decodeStateWord, isKnownState]

/-! ### From an instruction to its move and back -/

theorem decode_encodeLayout (o w : Byte) (e : Bool) :
    decode (encodeLayout o w e) = .ok (decodeLayoutWord (layoutWord o w e)) := by
  cases e <;> rfl

theorem decode_encodeOp (k : Byte) (args : List Byte) : decode (encodeOp k args) = decodeOperands k.toNat args := rfl

/-- Settles O1, row by row: a word decodes to its row, and a generic row is reached because well-formedness keeps its operands
off the rows that are tried before it. -/
theorem encodeThenDecode : Obligations.EncodeThenDecode := by
  intro i hi
  cases i with
  | frameHead | req | rsp | ack | nak | ctl => rfl
  | ackOther t s c0 c1 =>
    obtain ⟨hack, hnak⟩ : t ≠ 0x40#8 ∧ t ≠ 0x04#8 := by simpa [Instr.wf, Config.typeAck, Config.typeNak] using hi
    simp [encode, decodeBody, decodeFrameAck, hack, hnak]
  | start clr init rsv =>
    exact (decode_encodeWrite ..).trans (congrArg _ (decodeCtrlWrite_start clr init rsv))
  | clr init rsv => exact (decode_encodeWrite ..).trans (congrArg _ (decodeCtrlWrite_clr init rsv))
  | hcrcInit rsv => exact (decode_encodeWrite ..).trans (congrArg _ (decodeCtrlWrite_hcrcInit rsv))
  | hcrcDin v | wrCfg v | wrSeq v | wrCnt v | wrDesc v | wrKind v | wrFsel v | wrSumRem v | wrSumFull v | wrSumState v =>
    exact decode_encodeWrite _ v
  | wrIgnored n v =>
    refine (decode_encodeWrite n v).trans (congrArg _ ?_)
    obtain hn | ⟨rfl, hv⟩ : isWritable n = false ∨ n = 0#12 ∧ v.extractLsb' 0 3 = 0#3 := by simpa [Instr.wf] using hi
    · exact decodeWrite_of_not_writable v hn
    · exact decodeCtrlWrite_of_no_command hv
  | rdPbuf i =>
    have hi : i.toNat < 247 := of_decide_eq_true hi
    have hn := regOf_one_toNat i
    refine congrArg _ (?_ : decodeRead (regOf i 1#8) = _)
    rw [decodeRead_of_pbuf (by omega) (by omega), regLo_regOf]
  | rdOther n =>
    have hn : isReadable n = false := by simpa [Instr.wf] using hi
    exact (decode_encodeRead n).trans (congrArg _ (decodeRead_of_not_readable hn))
  | rdCtrl | rdCfg | rdStatus | rdErr | rdSeq | rdCnt | rdDesc | rdKind | rdRseq | rdPlen | rdFsel | rdFmeta
  | rdFvalLo | rdFvalHi | rdDstat | rdSumRem | rdSumFull | rdSumState | rdSumPctLo | rdSumPctHi | rdSumLabel
  | rdHcrcDin | rdHcrcVal => exact decode_encodeRead _
  | l0BaseStatus | l3State | l3PresentRate | l3RemainingCapacity | l3PresentVoltage => exact decode_encodeLayout ..
  | fieldUint o w =>
    obtain ⟨-, hw⟩ : entryFits o w false = true ∧ isKnownLayoutWord (layoutWord o w false) = false := by
      simpa [Instr.wf] using hi
    exact (decode_encodeLayout o w false).trans (congrArg _ (decodeLayoutWord_field hw))
  | fieldString o w =>
    exact (decode_encodeLayout o w true).trans (congrArg _ (decodeLayoutWord_field (isKnownLayoutWord_string o w)))
  | l1PowerSource | l2BatteryStatus => rfl
  | l4BatteryStatic j => revert j; decide
  | stateNone | stateDischarging | stateCharging | stateCritical | stateCriticalDischarging | stateCriticalCharging =>
    exact decode_encodeState _
  | stateUnknown v =>
    have hv : isKnownState v = false := by simpa [Instr.wf] using hi
    exact (decode_encodeState v).trans (congrArg _ (decodeStateWord_unknown hv))
  | stepDrainPop | stepDrainPreDone | stepSendRequest | stepAckPop | stepAckOutcome | stepRetransmit | stepRspPop
  | stepRspBody | stepSendAck | stepDrainPostDone | stepTimeout => rfl
  | rxArrive | txConsume | reset => rfl
  | crcBit c d => cases d <;> simp [encode, decode_encodeOp, decodeOperands, args3, decodeCrcBit, flagByte]
  | crcUpdate | crcSplit | encodeRequest | parseResponseBody =>
    simp [encode, decode_encodeOp, decodeOperands, args2, args3, decodeEncodeRequest, decodeParseResponseBody]
  | drainLength shape b3 => cases shape <;> rfl
  | reqLen k => revert k; decide
  | raiseFault k => cases k <;> rfl
  | crc16 | encodeAck | parseAck | needsRetry | parseResponseHeader | classifyShape | advance | pct | abort => rfl

/-! ### From a move to its instruction and back -/

/-- A decision that tries the word `k` first is encoded as the word `x`, by `g`, if each of its outcomes is encoded as the word
it stands for. -/
theorem encode_tryRow {α : Type} [DecidableEq α] {g : α → List Byte} {x k : α} {row other : Instr}
    (hrow : encode row = g k) (hother : encode other = g x) : encode (if x = k then row else other) = g x := by
  split
  next h => rw [hrow, h]
  next => exact hother

/-- The command bits and the reserved bits of a `CTRL` row are those of the value written. -/
theorem encode_decodeCtrlWrite (v : Word) : encode (decodeCtrlWrite v) = encodeWrite 0x000#12 v := by
  have hv := ctrlWord_of v
  simp only [decodeCtrlWrite, BitVec.getLsbD_eq_getElem, Nat.reduceLT]
  split_ifs <;> simp_all [encode]

theorem encode_decodeWrite (n : RegNum) (v : Word) : encode (decodeWrite n v) = encodeWrite n v := by
  refine encode_tryRow (g := (encodeWrite · v)) (encode_decodeCtrlWrite v) ?_
  iterate 10 refine encode_tryRow (g := (encodeWrite · v)) rfl ?_
  rfl

/-- The registers of `PBUF` are `0x100 + i` (R41). -/
theorem regHi_of_pbuf {n : RegNum} (h : 0x100 ≤ n.toNat ∧ n.toNat ≤ 0x1F6) : regHi n = 1#8 := by
  apply BitVec.eq_of_toNat_eq
  simp [regHi, Nat.shiftRight_eq_div_pow]
  omega

theorem encode_decodeRead (n : RegNum) : encode (decodeRead n) = encodeRead n := by
  iterate 23 refine encode_tryRow (g := encodeRead) rfl ?_
  split
  next h => simp only [encode, encodeRead, regHi_of_pbuf h]
  next => rfl

/-- The move of a 17-bit ROM word (R113). -/
def encodeLayoutWord (w : BitVec 17) : List Byte := encodeLayout (w.extractLsb' 0 8) (w.extractLsb' 8 8) (w.getLsbD 16)

@[simp] theorem encodeLayoutWord_layoutWord (o w : Byte) (e : Bool) :
    encodeLayoutWord (layoutWord o w e) = encodeLayout o w e := by simp [encodeLayoutWord]

theorem encode_decodeLayoutWord (w : BitVec 17) : encode (decodeLayoutWord w) = encodeLayoutWord w := by
  iterate 5 refine encode_tryRow (g := encodeLayoutWord) rfl ?_
  split
  next h => rw [encodeLayoutWord, h]; rfl
  next h => rw [encodeLayoutWord, Bool.eq_false_of_not_eq_true h]; rfl

theorem encode_decodeStateWord (v : Word) : encode (decodeStateWord v) = encodeState v := by
  iterate 6 refine encode_tryRow (g := encodeState) rfl ?_
  rfl

/-! ### The formats, one by one -/

section
variable {bytes : List Byte} {i : Instr}

/-- A guarded row answers only behind its guard. -/
theorem guard_and_eq_of_ok {p : Prop} [Decidable p] {row : Instr} {e : DecodeError}
    (h : (if p then .ok row else .error e) = Except.ok i) : p ∧ row = i := by
  split at h <;> cases h
  exact ⟨‹p›, rfl⟩

theorem encode_of_decodeFrameHead (h : decodeFrameHead bytes = .ok i) : encode i = Format.frameHead.tag :: bytes := by
  unfold decodeFrameHead at h
  split at h
  next =>
    obtain ⟨⟨rfl, rfl⟩, rfl⟩ := guard_and_eq_of_ok h
    rfl
  next => cases h

theorem encode_of_decodeFrameReq (h : decodeFrameReq bytes = .ok i) : encode i = Format.frameReq.tag :: bytes := by
  unfold decodeFrameReq at h
  split at h
  next =>
    obtain ⟨⟨rfl, rfl, rfl, rfl, rfl, rfl, rfl, rfl⟩, rfl⟩ := guard_and_eq_of_ok h
    rfl
  next => cases h

theorem encode_of_decodeFrameRsp (h : decodeFrameRsp bytes = .ok i) : encode i = Format.frameRsp.tag :: bytes := by
  unfold decodeFrameRsp at h
  split at h
  next =>
    obtain ⟨⟨rfl, rfl, rfl, rfl, rfl, rfl⟩, rfl⟩ := guard_and_eq_of_ok h
    rfl
  next => cases h

theorem encode_of_decodeFrameAck (h : decodeFrameAck bytes = .ok i) : encode i = Format.frameAck.tag :: bytes := by
  unfold decodeFrameAck at h
  split at h
  next p0 p1 t z3 z4 s c0 c1 t0 t1 =>
    split at h
    next hm =>
      obtain ⟨rfl, rfl, rfl, rfl, rfl, rfl⟩ := hm
      split_ifs at h <;> cases h <;> simp_all [encode]
    next => cases h
  next => cases h

theorem encode_of_decodeFrameCtl (h : decodeFrameCtl bytes = .ok i) : encode i = Format.frameCtl.tag :: bytes := by
  unfold decodeFrameCtl at h
  split at h
  next =>
    obtain ⟨⟨rfl, rfl, rfl⟩, rfl⟩ := guard_and_eq_of_ok h
    rfl
  next => cases h

theorem encode_of_decodeHostWrite (h : decodeHostWrite bytes = .ok i) : encode i = Format.hostWrite.tag :: bytes := by
  unfold decodeHostWrite at h
  split at h
  next v0 v1 v2 v3 n0 n1 =>
    obtain ⟨hn, rfl⟩ := guard_and_eq_of_ok h
    obtain ⟨h0, h1, h2, h3⟩ := wordByte_wordOf v0 v1 v2 v3
    rw [encode_decodeWrite, encodeWrite, h0, h1, h2, h3, regLo_regOf, regHi_regOf n0 n1 hn]
  next => cases h

theorem encode_of_decodeHostRead (h : decodeHostRead bytes = .ok i) : encode i = Format.hostRead.tag :: bytes := by
  unfold decodeHostRead at h
  split at h
  next n0 n1 =>
    obtain ⟨hn, rfl⟩ := guard_and_eq_of_ok h
    rw [encode_decodeRead, encodeRead, regLo_regOf, regHi_regOf n0 n1 hn]
  next => cases h

theorem encode_of_decodeLayoutEntry (h : decodeLayoutEntry bytes = .ok i) :
    encode i = Format.layoutEntry.tag :: bytes := by
  unfold decodeLayoutEntry at h
  split at h
  next o w e =>
    split_ifs at h with h0 h1 <;> cases h
    · rw [h0, encode_decodeLayoutWord, encodeLayoutWord_layoutWord]; rfl
    · rw [h1, encode_decodeLayoutWord, encodeLayoutWord_layoutWord]; rfl
  next => cases h

theorem encode_of_decodeLayoutOpen (h : decodeLayoutOpen bytes = .ok i) : encode i = Format.layoutOpen.tag :: bytes := by
  unfold decodeLayoutOpen at h
  split at h
  next k j =>
    split_ifs at h with h1 h2 h4 <;> cases h
    · obtain ⟨rfl, rfl⟩ := h1; rfl
    · obtain ⟨rfl, rfl⟩ := h2; rfl
    · obtain ⟨rfl, -⟩ := h4; simp [encode]
  next => cases h

theorem encode_of_decodeStateCode (h : decodeStateCode bytes = .ok i) : encode i = Format.stateCode.tag :: bytes := by
  unfold decodeStateCode at h
  split at h <;> cases h
  next v0 v1 v2 v3 =>
    obtain ⟨h0, h1, h2, h3⟩ := wordByte_wordOf v0 v1 v2 v3
    rw [encode_decodeStateWord, encodeState, h0, h1, h2, h3]

/-- A byte is known by the number it holds. -/
theorem byte_eq_ofNat {b : Byte} {n : Nat} (h : b.toNat = n) : b = BitVec.ofNat 8 n := by simp [← h]

theorem encode_of_decodeEngineStep (h : decodeEngineStep bytes = .ok i) : encode i = Format.engineStep.tag :: bytes := by
  unfold decodeEngineStep at h
  split at h
  next k =>
    split at h <;> cases h <;> (rename_i hk; rw [byte_eq_ofNat hk]; rfl)
  next => cases h

theorem encode_of_decodeEnvStep (h : decodeEnvStep bytes = .ok i) : encode i = Format.envStep.tag :: bytes := by
  unfold decodeEnvStep at h
  split at h
  next k => split_ifs at h with h1 h2 <;> cases h <;> subst k <;> rfl
  next k b => split_ifs at h with h0; cases h; subst k; rfl
  next => cases h

/-! ### The operations, by their operands -/

theorem args0_ok {r : Instr} (h : args0 r bytes = .ok i) : bytes = [] ∧ r = i := by
  unfold args0 at h
  split at h <;> cases h
  exact ⟨rfl, rfl⟩

theorem args1_ok {f : Byte → Except DecodeError Instr} (h : args1 f bytes = .ok i) :
    ∃ a, bytes = [a] ∧ f a = .ok i := by
  unfold args1 at h
  split at h
  exacts [⟨_, rfl, h⟩, nomatch h]

theorem args2_ok {f : Byte → Byte → Except DecodeError Instr} (h : args2 f bytes = .ok i) :
    ∃ a b, bytes = [a, b] ∧ f a b = .ok i := by
  unfold args2 at h
  split at h
  exacts [⟨_, _, rfl, h⟩, nomatch h]

theorem args3_ok {f : Byte → Byte → Byte → Except DecodeError Instr} (h : args3 f bytes = .ok i) :
    ∃ a b c, bytes = [a, b, c] ∧ f a b c = .ok i := by
  unfold args3 at h
  split at h
  exacts [⟨_, _, _, rfl, h⟩, nomatch h]

theorem encode_of_decodeCrcBit {c0 c1 d : Byte} (h : decodeCrcBit c0 c1 d = .ok i) : encode i = encodeOp 0#8 [c0, c1, d] := by
  unfold decodeCrcBit at h
  split_ifs at h with h0 h1 <;> cases h <;> subst d <;> simp [encode, flagByte]

theorem encode_of_decodeEncodeRequest (h : decodeEncodeRequest bytes = .ok i) : encode i = encodeOp 4#8 bytes := by
  unfold decodeEncodeRequest at h
  split at h <;> cases h
  simp [encode]

theorem encode_of_decodeParseResponseBody (h : decodeParseResponseBody bytes = .ok i) : encode i = encodeOp 9#8 bytes := by
  unfold decodeParseResponseBody at h
  split at h <;> cases h
  simp [encode]

theorem shapeByte_of_shapeOf {b : Byte} {x : Shape} (h : shapeOf b = some x) : shapeByte x = b := by
  unfold shapeOf at h
  split_ifs at h with h0 h1 h2 <;> cases h <;> exact Eq.symm ‹_›

theorem encode_of_decodeDrainLength {sh b3 : Byte} (h : decodeDrainLength sh b3 = .ok i) :
    encode i = encodeOp 11#8 [sh, b3] := by
  unfold decodeDrainLength at h
  split at h <;> cases h
  next hs => rw [encode, shapeByte_of_shapeOf hs]

theorem encode_of_decodeReqLen {x : Byte} (h : decodeReqLen x = .ok i) : encode i = encodeOp 13#8 [x] := by
  obtain ⟨hx, rfl⟩ := guard_and_eq_of_ok h
  have hback : (x.extractLsb' 0 3).zeroExtend 8 = x := by
    apply BitVec.eq_of_toNat_eq
    simp
    omega
  rw [encode, hback]

theorem code_of_fatalKindOf {b : Byte} {k : FatalKind} (h : fatalKindOf b = some k) : k.code.zeroExtend 8 = b := by
  unfold fatalKindOf at h
  split at h <;> cases h <;> (rename_i hb; rw [byte_eq_ofNat hb]; rfl)

theorem encode_of_decodeRaiseFault {c : Byte} (h : decodeRaiseFault c = .ok i) : encode i = encodeOp 15#8 [c] := by
  unfold decodeRaiseFault at h
  split at h <;> cases h
  next hk => rw [encode, code_of_fatalKindOf hk]

/-- The operands of each operation are read as the encoder writes them. -/
theorem encode_of_decodeOperands {k : Nat} (h : decodeOperands k bytes = .ok i) :
    encode i = encodeOp (BitVec.ofNat 8 k) bytes := by
  match k, h with
  | 0, h =>
    obtain ⟨c0, c1, d, rfl, h⟩ := args3_ok h
    exact encode_of_decodeCrcBit h
  | 1, h =>
    obtain ⟨c0, c1, b, rfl, h⟩ := args3_ok h
    cases h
    simp [encode]
  | 2, h => cases h; rfl
  | 3, h =>
    obtain ⟨c0, c1, rfl, h⟩ := args2_ok h
    cases h
    simp [encode]
  | 4, h => exact encode_of_decodeEncodeRequest h
  | 5, h | 6, h | 7, h =>
    obtain ⟨a, rfl, h⟩ := args1_ok h
    cases h
    rfl
  | 8, h | 12, h | 14, h | 16, h =>
    obtain ⟨rfl, rfl⟩ := args0_ok h
    rfl
  | 9, h => exact encode_of_decodeParseResponseBody h
  | 10, h =>
    obtain ⟨b0, b1, b2, rfl, h⟩ := args3_ok h
    cases h
    rfl
  | 11, h =>
    obtain ⟨sh, b3, rfl, h⟩ := args2_ok h
    exact encode_of_decodeDrainLength h
  | 13, h =>
    obtain ⟨x, rfl, h⟩ := args1_ok h
    exact encode_of_decodeReqLen h
  | 15, h =>
    obtain ⟨c, rfl, h⟩ := args1_ok h
    exact encode_of_decodeRaiseFault h
  | _ + 17, h => cases h

theorem encode_of_decodeOperation (h : decodeOperation bytes = .ok i) : encode i = Format.operation.tag :: bytes := by
  cases bytes with
  | nil => cases h
  | cons k args => rw [encode_of_decodeOperands h, BitVec.ofNat_toNat, BitVec.setWidth_eq, encodeOp]

/-! ### Every format -/

theorem encode_of_decodeBody {f : Format} (h : decodeBody f bytes = .ok i) : encode i = f.tag :: bytes := by
  cases f with
  | frameHead => exact encode_of_decodeFrameHead h
  | frameReq => exact encode_of_decodeFrameReq h
  | frameRsp => exact encode_of_decodeFrameRsp h
  | frameAck => exact encode_of_decodeFrameAck h
  | frameCtl => exact encode_of_decodeFrameCtl h
  | hostWrite => exact encode_of_decodeHostWrite h
  | hostRead => exact encode_of_decodeHostRead h
  | layoutEntry => exact encode_of_decodeLayoutEntry h
  | layoutOpen => exact encode_of_decodeLayoutOpen h
  | stateCode => exact encode_of_decodeStateCode h
  | engineStep => exact encode_of_decodeEngineStep h
  | envStep => exact encode_of_decodeEnvStep h
  | operation => exact encode_of_decodeOperation h

/-- A move that decodes is a format byte and a body that the format's decoder reads. -/
theorem body_of_decode {m : List Byte} (h : decode m = .ok i) :
    ∃ f body, m = Format.tag f :: body ∧ decodeBody f body = .ok i := by
  unfold decode at h
  split at h
  next => cases h
  next t body =>
    split at h
    next f hf => exact ⟨f, body, by rw [formatOf_eq_some hf], h⟩
    next => cases h

end

/-- Settles O2: the first byte is a format's tag, and each format's decoder answers only what encodes to the bytes it read. -/
theorem decodeThenEncode : Obligations.DecodeThenEncode := by
  intro m i h
  obtain ⟨f, body, rfl, hbody⟩ := body_of_decode h
  exact encode_of_decodeBody hbody

/-- The encoding of a well-formed instruction is read as that instruction. -/
theorem decode_eq_of_encode_eq {m : List Byte} {i : Instr} (hm : encode i = m) (hi : i.wf = true) : decode m = .ok i := by
  rw [← hm, encodeThenDecode i hi]

/-- Settles O3: each word is the encoding of its row, so the round trip reads the row back. -/
theorem specWordsDecode : Obligations.SpecWordsDecode :=
  ⟨decode_eq_of_encode_eq rfl rfl, decode_eq_of_encode_eq rfl rfl, decode_eq_of_encode_eq rfl rfl,
    decode_eq_of_encode_eq rfl rfl, decode_eq_of_encode_eq rfl rfl, decode_eq_of_encode_eq rfl rfl,
    decode_eq_of_encode_eq rfl rfl, decode_eq_of_encode_eq rfl rfl⟩

end Sys2Proof
end

section
/-! The response parsers: which frames they accept (R103, R164 to R166). -/

namespace Sys2Proof.Machine

/-! ### Byte ranges -/

theorem slice_add (f : Nat → Byte) (a m n : Nat) : slice f a (m + n) = slice f a m ++ slice f (a + m) n := by
  simp [slice, List.range_add, Nat.add_assoc]

/-- A range of bytes is two lists one after the other if its first part is the one and its rest the other. -/
theorem slice_eq_append_iff (f : Nat → Byte) (a : Nat) {m n : Nat} {x y : List Byte} (hx : x.length = m) :
    slice f a (m + n) = x ++ y ↔ slice f a m = x ∧ slice f (a + m) n = y := by
  rw [slice_add]
  constructor
  · exact fun h => List.append_inj h (by rw [slice_length, hx])
  · rintro ⟨hm, hn⟩
    rw [hm, hn]

theorem map_range_eq_slice (f : Nat → Byte) (n : Nat) : (List.range n).map f = slice f 0 n := by simp [slice]

theorem slice_two (f : Nat → Byte) (a : Nat) : slice f a 2 = [f a, f (a + 1)] := rfl

theorem slice_four (f : Nat → Byte) (a : Nat) : slice f a 4 = [f a, f (a + 1), f (a + 2), f (a + 3)] := rfl

/-- The CRC's two bytes stand at `a`, the low one first (R144, R148). -/
theorem crcMatches_iff (f : Nat → Byte) (b n a : Nat) :
    crcMatches f b n a = true ↔ slice f a 2 = [loByte (crc16 (slice f b n)), hiByte (crc16 (slice f b n))] := by
  simp [crcMatches, slice_two]

/-! ### The accepted frames -/

theorem parseResponseHeader_accepts_iff (f : Nat → Byte) :
    (∃ n, parseResponseHeader f = .ok n) ↔
      f 0 = 0xAA#8 ∧ f 1 = 0x55#8 ∧ f 2 = 0x80#8 ∧ crcMatches f 2 4 6 = true := by
  by_cases hsync : f 0 = Config.preamble0 ∧ f 1 = Config.preamble1 ∧ f 2 = Config.typeData
  · obtain ⟨h0, h1, h2⟩ := hsync
    cases hcrc : crcMatches f 2 4 6 <;>
      simp [parseResponseHeader, h0, h1, h2, hcrc, Config.preamble0, Config.preamble1, Config.typeData]
  · have hbad : f 0 ≠ Config.preamble0 ∨ f 1 ≠ Config.preamble1 ∨ f 2 ≠ Config.typeData := by tauto
    rw [parseResponseHeader, if_pos hbad]
    exact ⟨fun ⟨_, h⟩ => (nomatch h), fun ⟨h0, h1, h2, _⟩ => absurd ⟨h0, h1, h2⟩ hsync⟩

theorem parseResponseBody_of_accepted {f : Nat → Byte} {tc iid cid : Byte} {cnt : Half} (hn : 8 ≤ (f 3).toNat)
    (hecho : slice f 8 8 = echoPrefix tc iid cid cnt) (hcrc : crcMatches f 8 (f 3).toNat (8 + (f 3).toNat) = true) :
    parseResponseBody f tc iid cid cnt = .ok ⟨f 5, slice f 16 ((f 3).toNat - 8)⟩ := by
  simp [parseResponseBody, hecho, hcrc, hn]

theorem headBytes_length (t l r q : Byte) : (headBytes t l r q).length = 8 := rfl

theorem echoPrefix_length (tc iid cid : Byte) (cnt : Half) : (echoPrefix tc iid cid cnt).length = 8 := rfl

/-- The first eight bytes are a response header with a right CRC, for some reserved byte and sequence number (R101). -/
theorem headBytes_iff (f : Nat → Byte) (l q : Byte) :
    slice f 0 8 = headBytes 0x80#8 l (f 4) q ↔
      (f 0 = 0xAA#8 ∧ f 1 = 0x55#8 ∧ f 2 = 0x80#8 ∧ crcMatches f 2 4 6 = true) ∧ f 3 = l ∧ f 5 = q := by
  have hslice : slice f 0 8 = [f 0, f 1, f 2, f 3, f 4, f 5, f 6, f 7] := rfl
  rw [crcMatches_iff, slice_four, slice_two, hslice, headBytes]
  constructor <;> (intro h; simp_all)

/-- A response frame is its header, its payload and the payload's CRC, each in its place (R103, R108). -/
theorem rspFrame_iff (f : Nat → Byte) (q : Byte) (payload : List Byte) :
    slice f 0 (8 + payload.length + 2) = rspFrame (f 4) q payload ↔
      slice f 0 8 = headBytes 0x80#8 (BitVec.ofNat 8 payload.length) (f 4) q ∧ slice f 8 payload.length = payload ∧
        crcMatches f 8 payload.length (8 + payload.length) = true := by
  have hlen : (headBytes 0x80#8 (BitVec.ofNat 8 payload.length) (f 4) q ++ payload).length = 8 + payload.length := by
    rw [List.length_append, headBytes_length]
  rw [rspFrame, slice_eq_append_iff f 0 hlen, slice_eq_append_iff f 0 (headBytes_length ..), crcMatches_iff,
    Nat.zero_add, Nat.zero_add, and_assoc]
  exact and_congr_right fun _ => and_congr_right fun hpay => by rw [hpay]

/-- The response frame of an exchange, part by part: the header, the echo of the request, the raw payload, the
CRC (R103, R166). -/
theorem echoFrame_iff (f : Nat → Byte) (tc iid cid : Byte) (cnt : Half) (q : Byte) (raw : List Byte) :
    (List.range (raw.length + 18)).map f = rspFrame (f 4) q (echoPrefix tc iid cid cnt ++ raw) ↔
      ((f 0 = 0xAA#8 ∧ f 1 = 0x55#8 ∧ f 2 = 0x80#8 ∧ crcMatches f 2 4 6 = true) ∧
          f 3 = BitVec.ofNat 8 (8 + raw.length) ∧ f 5 = q) ∧
        (slice f 8 8 = echoPrefix tc iid cid cnt ∧ slice f 16 raw.length = raw) ∧
          crcMatches f 8 (8 + raw.length) (8 + (8 + raw.length)) = true := by
  have hlen : (echoPrefix tc iid cid cnt ++ raw).length = 8 + raw.length := by rw [List.length_append, echoPrefix_length]
  have h := rspFrame_iff f q (echoPrefix tc iid cid cnt ++ raw)
  rw [hlen, headBytes_iff, slice_eq_append_iff f 8 (echoPrefix_length ..)] at h
  rw [map_range_eq_slice, show raw.length + 18 = 8 + (8 + raw.length) + 2 by omega, h]

/-- Settles O17: both parsers' checks together say of the bytes what the frame's parts say, the length byte being 8 more than
the raw payload's length. -/
theorem responsesAcceptedExactly : Obligations.ResponsesAcceptedExactly := by
  intro f tc iid cid cnt q raw
  rw [parseResponseHeader_accepts_iff, echoFrame_iff]
  constructor
  · rintro ⟨hhead, hbody⟩
    obtain ⟨hn, hecho, hcrc, hfields⟩ := parseResponseBody_ok hbody
    obtain ⟨rfl, hraw⟩ : q = f 5 ∧ raw = slice f 16 ((f 3).toNat - 8) := by simpa using hfields
    have hmax := (f 3).isLt
    have hsub : raw.length = (f 3).toNat - 8 := by rw [hraw, slice_length]
    have hlen : 8 + raw.length = (f 3).toNat := by omega
    rw [hlen]
    exact ⟨by omega, ⟨hhead, by simp, rfl⟩, ⟨hecho, by rw [hsub, ← hraw]⟩, hcrc⟩
  · rintro ⟨hmax, ⟨hhead, hlen, hseq⟩, ⟨hecho, hraw⟩, hcrc⟩
    have hn : (f 3).toNat = 8 + raw.length := by rw [hlen, BitVec.toNat_ofNat]; omega
    refine ⟨hhead, ?_⟩
    rw [parseResponseBody_of_accepted (by omega) hecho (by rw [hn]; exact hcrc), hn, Nat.add_sub_cancel_left, hraw, hseq]

end Sys2Proof.Machine
end

section
/-! The CRC unit (R140 to R144): the shift register of one bit, the byte update as eight of its steps and as a linear map, and
the CRC of a byte sequence. -/

namespace Sys2Proof.Machine

/-! ### The feedback -/

/-- What the feedback bit adds to the shifted register (R141). -/
def feedback (fb : Bool) : Half := if fb then crcPoly else 0#16

theorem crcBit_eq_feedback (c : Half) (d : Bool) : crcBit c d = (c <<< 1) ^^^ feedback (d ^^ c.getLsbD 15) := by
  unfold crcBit feedback
  cases d ^^ c.getLsbD 15 <;> simp

theorem crcRound_eq_feedback (c : Half) : crcRound c = (c <<< 1) ^^^ feedback (c.getLsbD 15) := by
  unfold crcRound feedback
  cases c.getLsbD 15 <;> simp

theorem feedback_xor (a b : Bool) : feedback (a ^^ b) = feedback a ^^^ feedback b := by
  cases a <;> cases b <;> rfl

/-- The generator's terms below `x^16` are those of bits 0, 5 and 12 (R140). -/
theorem feedback_getLsbD (fb : Bool) {i : Nat} (hi : i < 16) :
    (feedback fb).getLsbD i = (fb && decide (i = 0 ∨ i = 5 ∨ i = 12)) := by
  revert fb i
  decide

/-! ### One bit (R141) -/

/-- The old bit below moves up, and the feedback bit enters at the generator's terms. -/
theorem crcBit_getLsbD (c : Half) (d : Bool) {i : Nat} (hi : i < 16) :
    (crcBit c d).getLsbD i =
      ((decide (1 ≤ i) && c.getLsbD (i - 1)) ^^ ((d ^^ c.getLsbD 15) && decide (i = 0 ∨ i = 5 ∨ i = 12))) := by
  rw [crcBit_eq_feedback, BitVec.getLsbD_xor, feedback_getLsbD _ hi, BitVec.getLsbD_shiftLeft]
  rcases i with _ | i <;> simp [hi]

/-! ### A byte as eight bits (R141, R142) -/

theorem crcUpdate_eq_iterate (c : Half) (b : Byte) : crcUpdate c b = crcRound^[8] (c ^^^ (b.zeroExtend 16 <<< 8)) := rfl

/-- The register after the top `k` bits of `x`, from bit 15 down, have entered it one by one. -/
def feedTopBits (c x : Half) : Nat → Half
  | 0 => c
  | k + 1 => crcBit (feedTopBits c x k) (x.getLsbD (15 - k))

/-- A round on a register with data folded in feeds the data's top bit and moves the rest of the data up. -/
theorem crcRound_xor_data (c x : Half) : crcRound (c ^^^ x) = crcBit c (x.getLsbD 15) ^^^ (x <<< 1) := by
  rw [crcRound_eq_feedback, crcBit_eq_feedback, BitVec.getLsbD_xor, feedback_xor, feedback_xor,
    BitVec.shiftLeft_xor_distrib]
  ac_rfl

/-- Data folded in at once is fed bit by bit by the rounds; what is not yet fed stands above the register. -/
theorem crcRound_iterate_xor_data (c x : Half) {k : Nat} (hk : k ≤ 16) :
    crcRound^[k] (c ^^^ x) = feedTopBits c x k ^^^ (x <<< k) := by
  induction k with
  | zero => simp [feedTopBits]
  | succ k ih =>
    have htop : (x <<< k).getLsbD 15 = x.getLsbD (15 - k) := by
      simp only [BitVec.getLsbD_shiftLeft, show ¬ 15 < k by omega, decide_false, Bool.not_false, Bool.and_true]
      rfl
    rw [Function.iterate_succ_apply', ih (by omega), crcRound_xor_data, htop, ← BitVec.shiftLeft_add, feedTopBits]

/-- The data byte's bits, counted from the top as they are fed. -/
theorem dataByte_getLsbD (b : Byte) {k : Nat} (hk : k < 8) :
    (b.zeroExtend 16 <<< 8).getLsbD (15 - k) = b.getLsbD (7 - k) := by
  have hidx : 15 - k - 8 = 7 - k := by omega
  simp only [BitVec.getLsbD_shiftLeft, BitVec.truncate_eq_setWidth, BitVec.getLsbD_setWidth, hidx]
  simp [show ¬ 15 - k < 8 by omega, show 15 - k < 16 by omega, show 7 - k < 16 by omega]

theorem dataByte_shiftLeft_eight (b : Byte) : (b.zeroExtend 16 <<< 8) <<< 8 = 0#16 := by
  rw [← BitVec.shiftLeft_add]
  exact BitVec.shiftLeft_eq_zero (by decide)

/-- The bytewise form of R142 is the bit-serial form of R141. -/
theorem crcUpdate_eq_crcBit (c : Half) (b : Byte) :
    crcUpdate c b =
      crcBit (crcBit (crcBit (crcBit (crcBit (crcBit (crcBit (crcBit c (b.getLsbD 7)) (b.getLsbD 6)) (b.getLsbD 5))
        (b.getLsbD 4)) (b.getLsbD 3)) (b.getLsbD 2)) (b.getLsbD 1)) (b.getLsbD 0) := by
  rw [crcUpdate_eq_iterate, crcRound_iterate_xor_data _ _ (by decide), dataByte_shiftLeft_eight, BitVec.xor_zero]
  simp only [feedTopBits, dataByte_getLsbD b, Nat.reduceLT]

/-- Settles O5: a bit by the shift register's equation, a byte by its eight bits. -/
theorem crcBitIsTheShiftRegister : Obligations.CrcBitIsTheShiftRegister := by
  refine ⟨fun c d => ⟨?shifted, ?bit0, ?bit5, ?bit12, rfl⟩, crcUpdate_eq_crcBit, fun _ _ _ => rfl⟩
  case shifted =>
    intro i h1 h15 h5 h12
    have h0 : i ≠ 0 := by omega
    rw [crcBit_getLsbD c d (by omega)]
    simp [h0, h1, h5, h12]
  case bit0 => rw [crcBit_getLsbD c d (by decide)]; simp
  case bit5 => rw [crcBit_getLsbD c d (by decide)]; simp
  case bit12 => rw [crcBit_getLsbD c d (by decide)]; simp

/-! ### The byte update as a linear map (R142) -/

/-- Linearity over exclusive or, from that of each round. -/
theorem crcUpdate_xor (c c' : Half) (b b' : Byte) :
    crcUpdate (c ^^^ c') (b ^^^ b') = crcUpdate c b ^^^ crcUpdate c' b' := by
  have harg : c ^^^ c' ^^^ ((b ^^^ b').zeroExtend 16 <<< 8) =
      (c ^^^ (b.zeroExtend 16 <<< 8)) ^^^ (c' ^^^ (b'.zeroExtend 16 <<< 8)) := by
    simp only [BitVec.truncate_eq_setWidth, BitVec.setWidth_xor, BitVec.shiftLeft_xor_distrib]
    ac_rfl
  simp only [crcUpdate, harg, crcRound_xor]

/-- No feedback comes from a low byte on its way up. -/
theorem crcRound_iterate_lowByte (a : Byte) {k : Nat} (hk : k ≤ 8) :
    crcRound^[k] (a.zeroExtend 16) = a.zeroExtend 16 <<< k := by
  induction k with
  | zero => simp
  | succ k ih =>
    have htop : (a.zeroExtend 16 <<< k).getLsbD 15 = false := by
      simp only [BitVec.getLsbD_shiftLeft, BitVec.truncate_eq_setWidth, BitVec.getLsbD_setWidth,
        BitVec.getLsbD_of_ge a (15 - k) (by omega), Bool.and_false]
    rw [Function.iterate_succ_apply', ih (by omega), crcRound_eq_feedback, htop, ← BitVec.shiftLeft_add]
    exact BitVec.xor_zero

theorem crcUpdate_lowByte (a : Byte) : crcUpdate (a.zeroExtend 16) 0#8 = a.zeroExtend 16 <<< 8 := by
  have hdata : a.zeroExtend 16 ^^^ ((0#8).zeroExtend 16 <<< 8) = a.zeroExtend 16 := BitVec.xor_zero
  rw [crcUpdate_eq_iterate, hdata, crcRound_iterate_lowByte a (Nat.le_refl 8)]

/-- A high byte in the register acts as the same byte of data. -/
theorem crcUpdate_highByte (h b : Byte) : crcUpdate (h.zeroExtend 16 <<< 8) b = crcUpdate 0x0000#16 (h ^^^ b) := by
  simp only [crcUpdate, BitVec.truncate_eq_setWidth, BitVec.setWidth_xor, BitVec.shiftLeft_xor_distrib, BitVec.zero_xor]

theorem eq_lowByte_xor_highByte (c : Half) : c = (loByte c).zeroExtend 16 ^^^ ((hiByte c).zeroExtend 16 <<< 8) := by
  refine BitVec.eq_of_getLsbD_eq fun i hi => ?_
  by_cases h8 : i < 8
  · simp [loByte, hi, h8]
  · simp [loByte, hiByte, hi, h8, show i - 8 < 8 by omega, show 8 + (i - 8) = i by omega]

theorem shiftLeft_eight_eq_lowByte (c : Half) : c <<< 8 = (loByte c).zeroExtend 16 <<< 8 := by
  calc c <<< 8
    _ = ((loByte c).zeroExtend 16 ^^^ ((hiByte c).zeroExtend 16 <<< 8)) <<< 8 := by rw [← eq_lowByte_xor_highByte]
    _ = (loByte c).zeroExtend 16 <<< 8 := by
      rw [BitVec.shiftLeft_xor_distrib, dataByte_shiftLeft_eight, BitVec.xor_zero]

/-- The table form of R142: the low byte moves up, and the high byte and the data together name the table's word. -/
theorem crcUpdate_table (c : Half) (b : Byte) :
    crcUpdate c b = (c <<< 8) ^^^ crcUpdate 0x0000#16 (hiByte c ^^^ b) := by
  calc crcUpdate c b
    _ = crcUpdate ((loByte c).zeroExtend 16 ^^^ ((hiByte c).zeroExtend 16 <<< 8)) (0#8 ^^^ b) := by
      rw [← eq_lowByte_xor_highByte, BitVec.zero_xor]
    _ = (c <<< 8) ^^^ crcUpdate 0x0000#16 (hiByte c ^^^ b) := by
      rw [crcUpdate_xor, crcUpdate_lowByte, crcUpdate_highByte, ← shiftLeft_eight_eq_lowByte]

/-- A round loses nothing: the bit shifted out comes back in at bit 0. -/
theorem crcRound_injective : Function.Injective crcRound := by
  intro c c' h
  rw [crcRound_eq_feedback, crcRound_eq_feedback] at h
  have htop : c.getLsbD 15 = c'.getLsbD 15 := by
    have hbit0 := congrArg (BitVec.getLsbD · 0) h
    simp only [BitVec.getLsbD_xor, BitVec.getLsbD_shiftLeft, feedback_getLsbD _ (show 0 < 16 by decide)] at hbit0
    simpa using hbit0
  rw [htop, BitVec.xor_left_inj] at h
  refine BitVec.eq_of_getLsbD_eq fun i hi => ?_
  by_cases h15 : i = 15
  · rw [h15, htop]
  · have hbit := congrArg (BitVec.getLsbD · (i + 1)) h
    simpa [show i + 1 < 16 by omega, ← BitVec.getLsbD_eq_getElem] using hbit

theorem crcUpdate_injective (b : Byte) : Function.Injective fun c => crcUpdate c b := by
  intro c c' h
  simpa only [crcUpdate, crcRound_injective.eq_iff, BitVec.xor_left_inj] using h

/-- Settles O6: the table form splits the register into its bytes, and injectivity is that of each round. -/
theorem crcUpdateTableForm : Obligations.CrcUpdateTableForm :=
  ⟨crcUpdate_table, fun b _ _ h => crcUpdate_injective b h, fun _ _ _ => rfl⟩

/-! ### A byte sequence (R143, R144) -/

theorem crc16_append (xs ys : List Byte) : crc16 (xs ++ ys) = ys.foldl crcUpdate (crc16 xs) := List.foldl_append

/-- Settles O7: the sequence clauses by the fold over the bytes, the two vectors of the spec by evaluation. -/
theorem crc16OfBytes : Obligations.Crc16OfBytes :=
  ⟨crc16_nil, fun bytes b => crc16_append bytes [b], by decide +kernel, by decide +kernel, fun _ _ => rfl, fun _ _ => rfl⟩

end Sys2Proof.Machine
end

section
/-! The frames that SFPE builds, before its own parsers (R149): what `FB` holds is read byte range by byte range, and the ranges
that the parsers check are the ones that the builders wrote. -/

namespace Sys2Proof.Machine

/-! ### What `FB` holds -/

theorem fbByte_of_fbHolds {s : State} {bytes : List Byte} (h : fbHolds s bytes) {k : Nat} (hk : k < bytes.length) :
    fbByte s k = bytes[k] :=
  Memory.byteAt_of_read (h k _ (List.getElem?_eq_getElem hk))

theorem slice_of_fbHolds {s : State} {bytes : List Byte} (h : fbHolds s bytes) : slice (fbByte s) 0 bytes.length = bytes := by
  refine List.ext_getElem (slice_length ..) fun k _ hk => ?_
  simp [slice, fbByte_of_fbHolds h hk]

/-! ### The header -/

/-- The first eight bytes, one by one, with the CRC of the four that it covers (R101). -/
theorem header_of_headBytes {f : Nat → Byte} {t l r q : Byte} (h : slice f 0 8 = headBytes t l r q) :
    f 0 = 0xAA#8 ∧ f 1 = 0x55#8 ∧ f 2 = t ∧ f 3 = l ∧ f 4 = r ∧ f 5 = q ∧ crcMatches f 2 4 6 = true := by
  have hbytes : [f 0, f 1, f 2, f 3, f 4, f 5, f 6, f 7] = headBytes t l r q := h
  rw [crcMatches_iff, slice_four, slice_two]
  simp only [headBytes, List.cons.injEq] at hbytes
  obtain ⟨h0, h1, h2, h3, h4, h5, h6, h7, -⟩ := hbytes
  simp only [h0, h1, h2, h3, h4, h5, h6, h7, and_self]

/-! ### The acknowledgement -/

/-- A whole acknowledgement passes every check of R162, a plain one if its sequence number is the expected one. -/
theorem parseAck_of_ackShape {f : Nat → Byte} {t q e : Byte} (h : slice f 0 10 = ackShape t q) (hseq : t = 0x40#8 → q = e) :
    parseAck f e = .ok ⟨t, q⟩ := by
  obtain ⟨hhead, htrailer⟩ := (slice_eq_append_iff f 0 (m := 8) (n := 2) (headBytes_length ..)).mp h
  obtain ⟨h0, h1, h2, h3, h4, h5, hcrc⟩ := header_of_headBytes hhead
  obtain ⟨h8, h9⟩ : f 8 = 0xFF#8 ∧ f 9 = 0xFF#8 := by simpa [slice_two] using htrailer
  simpa [parseAck, h0, h1, h2, h3, h4, h5, h8, h9, hcrc, Config.preamble0, Config.preamble1, Config.trailer,
    Config.typeAck] using hseq

/-! ### The request -/

/-- The payload of a request (R102, R160). -/
def requestPayload (tc iid cid : Byte) (cnt : Half) : List Byte :=
  [0x80#8, tc, 0x01#8, 0x00#8, iid, loByte cnt, hiByte cnt, cid]

theorem requestPayload_length (tc iid cid : Byte) (cnt : Half) : (requestPayload tc iid cid cnt).length = 8 := rfl

/-- A request is its header, its payload and the payload's CRC (R160). -/
theorem encodeRequest_parts (tc iid cid seq : Byte) (cnt : Half) :
    encodeRequest tc iid cid seq cnt =
      headBytes 0x80#8 0x08#8 0x00#8 seq ++ (requestPayload tc iid cid cnt ++
        [loByte (crc16 (requestPayload tc iid cid cnt)), hiByte (crc16 (requestPayload tc iid cid cnt))]) := rfl

/-- A request's payload bytes 2 and 3 are `01 00`, where an echo has `00 01` (R149). -/
theorem requestPayload_ne_echoPrefix (tc iid cid tc' iid' cid' : Byte) (cnt cnt' : Half) :
    requestPayload tc iid cid cnt ≠ echoPrefix tc' iid' cid' cnt' := by
  simp [requestPayload, echoPrefix]

theorem slices_of_request {f : Nat → Byte} {tc iid cid seq : Byte} {cnt : Half}
    (h : slice f 0 18 = encodeRequest tc iid cid seq cnt) :
    slice f 0 8 = headBytes 0x80#8 0x08#8 0x00#8 seq ∧ slice f 8 8 = requestPayload tc iid cid cnt ∧
      crcMatches f 8 8 16 = true := by
  rw [encodeRequest_parts] at h
  obtain ⟨hhead, hrest⟩ := (slice_eq_append_iff f 0 (m := 8) (n := 10) (headBytes_length ..)).mp h
  obtain ⟨hpayload, hcrc⟩ := (slice_eq_append_iff f 8 (m := 8) (n := 2) (requestPayload_length ..)).mp hrest
  exact ⟨hhead, hpayload, by rw [crcMatches_iff, hpayload]; exact hcrc⟩

theorem parseResponseHeader_of_headBytes {f : Nat → Byte} {l r q : Byte} (h : slice f 0 8 = headBytes 0x80#8 l r q) :
    parseResponseHeader f = .ok l := by
  obtain ⟨h0, h1, h2, h3, -, -, hcrc⟩ := header_of_headBytes h
  simp [parseResponseHeader, h0, h1, h2, h3, hcrc, Config.preamble0, Config.preamble1, Config.typeData]

/-- The echo test comes before the payload CRC, and a payload without the echo fails it at any length (R165). -/
theorem parseResponseBody_of_wrong_echo {f : Nat → Byte} {tc iid cid : Byte} {cnt : Half}
    (h : slice f 8 8 ≠ echoPrefix tc iid cid cnt) : parseResponseBody f tc iid cid cnt = .error .unexpectedResponseTarget := by
  by_cases hn : (f 3).toNat < 8 <;> simp [parseResponseBody, hn, h]

/-! ### The parsers as instructions -/

theorem opReturnsParsed_ok {α : Type} (g : α → OpResult) (a : α) (s : State) :
    opReturnsParsed g (.ok a) s = { s with opr := g a } := rfl

theorem opReturnsParsed_error {α : Type} (g : α → OpResult) (k : FatalKind) (s : State) :
    opReturnsParsed g (.error k) s = { s with opr := .returnedFault k } := rfl

theorem exec_parseAck (e : Byte) (s : State) :
    exec (.parseAck e) s = .next (opReturnsParsed (fun r => .ackParsed r.type r.seq) (parseAck (fbByte s) e) s) := rfl

theorem exec_parseResponseHeader (s : State) :
    exec .parseResponseHeader s = .next (opReturnsParsed .header (parseResponseHeader (fbByte s)) s) := rfl

theorem exec_parseResponseBody (tc iid cid : Byte) (cnt : Half) (s : State) :
    exec (.parseResponseBody tc iid cid cnt) s =
      .next (opReturnsParsed (fun r => .body r.seq r.payload) (parseResponseBody (fbByte s) tc iid cid cnt) s) := rfl

/-- Settles O12: the parsers check the byte ranges that the builders wrote, and a request's payload is no echo. -/
theorem builtFramesValidate : Obligations.BuiltFramesValidate := by
  refine ⟨?ack, ?request⟩
  case ack =>
    intro seq s hfb
    have hframe : slice (fbByte s) 0 10 = ackShape 0x40#8 seq := slice_of_fbHolds hfb
    rw [exec_parseAck, parseAck_of_ackShape hframe fun _ => rfl, opReturnsParsed_ok]
  case request =>
    intro tc iid cid seq cnt s hfb
    obtain ⟨hhead, hpayload, hcrc⟩ := slices_of_request (slice_of_fbHolds hfb)
    refine ⟨?header, hcrc, ?body⟩
    case header => rw [exec_parseResponseHeader, parseResponseHeader_of_headBytes hhead, opReturnsParsed_ok]
    case body =>
      intro tc' iid' cid' cnt'
      have hecho := hpayload.trans_ne (requestPayload_ne_echoPrefix tc iid cid tc' iid' cid' cnt cnt')
      rw [exec_parseResponseBody, parseResponseBody_of_wrong_echo hecho, opReturnsParsed_error]

end Sys2Proof.Machine
end

section
/-! The frame codec's operations (R160 to R168): each parser's checks in their order, the frames that the acknowledgement
parser accepts, the builders and the drain's shapes. -/

namespace Sys2Proof.Machine

/-! ### The builders and the shapes -/

/-- Settles O11: both builders compute to the frame written out in the statement. -/
theorem frameBuilders : Obligations.FrameBuilders := ⟨fun _ _ _ _ _ _ => rfl, fun _ _ => rfl⟩

/-- The value that `classify_shape` returns (R167). -/
def shapeResult : Option Shape → OpResult
  | some x => .shape x
  | none => .returnedFault .protocolDesync

theorem exec_classifyShape (b0 b1 b2 : Byte) (s : State) :
    exec (.classifyShape b0 b1 b2) s = .next { s with opr := shapeResult (classifyShape b0 b1 b2) } := by
  change execClassifyShape b0 b1 b2 s = _
  unfold execClassifyShape
  cases classifyShape b0 b1 b2 <;> rfl

/-- Settles O18: the classifier's choices are those of the values it returns. -/
theorem retryFlagAndShapes : Obligations.RetryFlagAndShapes := by
  refine ⟨fun _ _ => rfl, fun b0 b1 b2 s => ?_⟩
  rw [exec_classifyShape]
  simp only [classifyShape, apply_ite shapeResult]
  rfl

/-! ### The parsers' checks in order -/

/-- One check of a parser as an instruction: a failing one decides the kind, and the rest of the parser decides else (R323). -/
theorem opReturnsParsed_check {α : Type} {g : α → OpResult} {p p' : Prop} [Decidable p] [Decidable p'] (hp : p ↔ p')
    (k : FatalKind) {rest : Except FatalKind α} {x : OpResult} {s : State}
    (hrest : opReturnsParsed g rest s = { s with opr := x }) :
    opReturnsParsed g (if p then .error k else rest) s = { s with opr := if p' then .returnedFault k else x } := by
  by_cases h : p
  · rw [if_pos h, if_pos (hp.mp h), opReturnsParsed_error]
  · rw [if_neg h, if_neg (hp.not.mp h), hrest]

/-- A CRC comparison fails at its low or at its high byte (R144, R148). -/
theorem crcMatches_eq_false_iff (f : Nat → Byte) (b n a : Nat) :
    crcMatches f b n a = false ↔ f a ≠ loByte (crc16 (slice f b n)) ∨ f (a + 1) ≠ hiByte (crc16 (slice f b n)) := by
  rw [← Bool.not_eq_true, crcMatches_iff, slice_two]
  simp only [List.cons.injEq, and_true]
  tauto

/-- Settles O13, check by check (R162). -/
theorem parseAckChecksInOrder : Obligations.ParseAckChecksInOrder := by
  intro e s
  rw [exec_parseAck, parseAck]
  exact congrArg Host.Outcome.next <|
    opReturnsParsed_check Iff.rfl .frameSync <|
    opReturnsParsed_check Iff.rfl .ackFormat <|
    opReturnsParsed_check (crcMatches_eq_false_iff (fbByte s) 2 4 6) .checksumMismatch <|
    opReturnsParsed_check Iff.rfl .ackFormat <|
    opReturnsParsed_check Iff.rfl .ackSeqMismatch <|
    opReturnsParsed_ok _ _ s

/-- Settles O15, check by check (R164). -/
theorem parseResponseHeaderChecks : Obligations.ParseResponseHeaderChecks := by
  intro s
  rw [exec_parseResponseHeader, parseResponseHeader]
  exact congrArg Host.Outcome.next <|
    opReturnsParsed_check Iff.rfl .frameSync <|
    opReturnsParsed_check (crcMatches_eq_false_iff (fbByte s) 2 4 6) .checksumMismatch <|
    opReturnsParsed_ok _ _ s

/-- Settles O16, check by check (R165). The second CRC byte's offset is written `8 + n + 1` in the parser and `9 + n` in the
statement. -/
theorem parseResponseBodyChecks : Obligations.ParseResponseBodyChecks := by
  intro tc iid cid cnt s f n c
  have hcrc : crcMatches f 8 n (8 + n) = false ↔ f (8 + n) ≠ loByte c ∨ f (9 + n) ≠ hiByte c := by
    rw [show 9 + n = 8 + n + 1 by omega]
    exact crcMatches_eq_false_iff f 8 n (8 + n)
  rw [exec_parseResponseBody, parseResponseBody]
  exact congrArg Host.Outcome.next <|
    opReturnsParsed_check Iff.rfl .unexpectedResponseTarget <|
    opReturnsParsed_check Iff.rfl .unexpectedResponseTarget <|
    opReturnsParsed_check hcrc .checksumMismatch <|
    opReturnsParsed_ok _ _ s

/-! ### The accepted acknowledgements -/

/-- An acknowledgement that passes every check of R162 has each byte that a check names, and its fields. -/
theorem parseAck_ok {f : Nat → Byte} {e : Byte} {r : AckFields} (h : parseAck f e = .ok r) :
    (f 0 = 0xAA#8 ∧ f 1 = 0x55#8) ∧ (f 3 = 0x00#8 ∧ f 4 = 0x00#8) ∧ crcMatches f 2 4 6 = true ∧
      (f 8 = 0xFF#8 ∧ f 9 = 0xFF#8) ∧ (f 2 = 0x40#8 → f 5 = e) ∧ r = ⟨f 2, f 5⟩ := by
  unfold parseAck at h
  split_ifs at h with hsync hzero hcrc htrailer hseq
  simp only [not_or, ne_eq, not_not] at hsync hzero htrailer
  exact ⟨hsync, hzero, by simpa using hcrc, htrailer, fun ht => by_contra fun hne => hseq ⟨ht, hne⟩,
    (Except.ok.inj h).symm⟩

/-- The bytes that a header's checks pin down are a header: the converse of `header_of_headBytes`. -/
theorem headBytes_of_header {f : Nat → Byte} (h0 : f 0 = 0xAA#8) (h1 : f 1 = 0x55#8) (hcrc : crcMatches f 2 4 6 = true) :
    slice f 0 8 = headBytes (f 2) (f 3) (f 4) (f 5) := by
  rw [crcMatches_iff, slice_two, slice_four] at hcrc
  have hslice : slice f 0 8 = f 0 :: f 1 :: f 2 :: f 3 :: f 4 :: f 5 :: [f 6, f 7] := rfl
  rw [hslice, hcrc, h0, h1, headBytes]

/-- Settles O14: the bytes that the checks pin down are the ten of the shape. -/
theorem parseAckAcceptsExactly : Obligations.ParseAckAcceptsExactly := by
  intro f e r
  rw [map_range_eq_slice]
  constructor
  · intro h
    obtain ⟨⟨h0, h1⟩, ⟨h3, h4⟩, hcrc, ⟨h8, h9⟩, hseq, rfl⟩ := parseAck_ok h
    refine ⟨(slice_eq_append_iff f 0 (m := 8) (n := 2) (headBytes_length ..)).mpr ⟨?head, ?trailer⟩, hseq⟩
    case head => simpa only [h3, h4] using headBytes_of_header h0 h1 hcrc
    case trailer => rw [slice_two, h8, h9]
  · rintro ⟨hframe, hseq⟩
    exact parseAck_of_ackShape hframe hseq

end Sys2Proof.Machine
end

section
/-! Runs of pops: a sequence of bytes taken from `RXQ` into `FB` one step at a time, and what a drain and the wait for a response
make of it. -/

namespace Sys2Proof.Machine

/-! ### A byte sequence stored in a buffer -/

/-- The buffer after the bytes are stored one after another from offset `a` on. -/
def Memory.writeRange : Memory → Nat → List Byte → Memory
  | m, _, [] => m
  | m, a, b :: bytes => Memory.writeRange (Memory.write m a b) (a + 1) bytes

theorem Memory.writeRange_append (m : Memory) (a : Nat) (xs ys : List Byte) :
    Memory.writeRange m a (xs ++ ys) = Memory.writeRange (Memory.writeRange m a xs) (a + xs.length) ys := by
  induction xs generalizing m a with
  | nil => rfl
  | cons x xs ih => simp [Memory.writeRange, ih, Nat.add_assoc, Nat.add_comm 1]

theorem Memory.read_writeRange_outside (m : Memory) (a : Nat) (bytes : List Byte) {k : Nat}
    (hk : k < a ∨ a + bytes.length ≤ k) : Memory.read (Memory.writeRange m a bytes) k = Memory.read m k := by
  induction bytes generalizing m a with
  | nil => rfl
  | cons b bytes ih =>
    rw [List.length_cons] at hk
    rw [Memory.writeRange, ih _ _ (by omega), Memory.read_write_other _ _ _ _ (by omega)]

theorem Memory.read_writeRange_inside (m : Memory) (a : Nat) (bytes : List Byte) {i : Nat} {b : Byte}
    (hi : bytes[i]? = some b) : Memory.read (Memory.writeRange m a bytes) (a + i) = some b := by
  induction bytes generalizing m a i with
  | nil => simp at hi
  | cons c bytes ih =>
    rw [Memory.writeRange]
    cases i with
    | zero =>
      obtain rfl : c = b := by simpa using hi
      rw [Memory.read_writeRange_outside _ _ _ (.inl (by omega)), Nat.add_zero, Memory.read_write_same]
    | succ i =>
      rw [show a + (i + 1) = a + 1 + i by omega]
      exact ih _ _ (by simpa using hi)

/-- A sequence stored from offset 0 on is what `FB` then holds. -/
theorem fbHolds_of_writeRange {s : State} {m : Memory} {bytes : List Byte} (h : s.fb = Memory.writeRange m 0 bytes) :
    fbHolds s bytes := by
  intro k b hk
  have hread := Memory.read_writeRange_inside m 0 bytes hk
  rwa [Nat.zero_add, ← h] at hread

/-! ### The state in mid-frame -/

/-- `s` with `k` bytes of a frame received and the target length `l`: the bytes stand in `fb`, and `q` is still to come. -/
def receiving (s : State) (l : BitVec 9) (k : Nat) (fb : Memory) (q : List Byte) : State :=
  { s with tl := l, bc := BitVec.ofNat 9 k, fb := fb, rxq := q }

section Receiving

variable (s : State) (l : BitVec 9) (k : Nat) (fb : Memory) (q : List Byte)

@[simp] theorem receiving_st : (receiving s l k fb q).st = s.st := rfl
@[simp] theorem receiving_tl : (receiving s l k fb q).tl = l := rfl
@[simp] theorem receiving_fb : (receiving s l k fb q).fb = fb := rfl

theorem receiving_bc : (receiving s l k fb q).bc = BitVec.ofNat 9 k := rfl

theorem receiving_bc_succ : (receiving s l k fb q).bc + 1#9 = BitVec.ofNat 9 (k + 1) := by
  rw [receiving_bc, BitVec.ofNat_add]

theorem countPop_receiving : countPop (receiving s l k fb q) = receiving s l (k + 1) fb q := by
  rw [countPop, receiving_bc_succ]
  rfl

variable {k}

theorem receiving_bc_toNat (hk : k < 512) : (receiving s l k fb q).bc.toNat = k := by
  rw [receiving_bc, BitVec.toNat_ofNat, Nat.mod_eq_of_lt hk]

theorem receiving_bc_succ_eq_iff (hk : k < 511) (n : BitVec 9) :
    (receiving s l k fb q).bc + 1#9 = n ↔ k + 1 = n.toNat := by
  rw [receiving_bc_succ, ← BitVec.toNat_inj, BitVec.toNat_ofNat, Nat.mod_eq_of_lt (by omega)]

theorem popped_receiving (hk : k < 512) (b : Byte) :
    popped b q (receiving s l k fb (b :: q)) = receiving s l k (Memory.write fb k b) q := by
  rw [popped, receiving_bc_toNat s l fb _ hk]
  rfl

variable {s}

/-- A frame's first byte is awaited. -/
theorem receiving_zero (hbc : s.bc = 0#9) (htl : s.tl = 0#9) : receiving s 0#9 0 fb q = { s with fb := fb, rxq := q } := by
  cases s
  cases hbc
  cases htl
  rfl

end Receiving

/-- Steps that each pop one byte and count it pop and count them all. -/
theorem steps_receiving (s : State) (l : BitVec 9) (bytes q : List Byte) (k : Nat) (fb : Memory)
    (hstep : ∀ i, k ≤ i → i < k + bytes.length → ∀ m b r,
      step (receiving s l i m (b :: r)) = .next (receiving s l (i + 1) (Memory.write m i b) r)) :
    steps bytes.length (receiving s l k fb (bytes ++ q)) =
      .next (receiving s l (k + bytes.length) (Memory.writeRange fb k bytes) q) := by
  induction bytes generalizing k fb with
  | nil => rfl
  | cons b bytes ih =>
    rw [List.length_cons] at hstep ⊢
    rw [List.cons_append, steps_succ _ (hstep k (by omega) (by omega) fb b _),
      ih (k + 1) _ fun i hlo hhi => hstep i (by omega) (by omega), Nat.add_assoc, Nat.add_comm 1]
    rfl

/-- Steps that each pop one byte and count it, up to byte `n`, at whose step the machine goes on to `g`. -/
theorem steps_receiving_last {s : State} {l : BitVec 9} {k n : Nat} {g : Memory → List Byte → State} {bytes : List Byte}
    (hk : k < n) (hn : k + bytes.length = n)
    (hcount : ∀ i, k ≤ i → i + 1 < n → ∀ m b r,
      step (receiving s l i m (b :: r)) = .next (receiving s l (i + 1) (Memory.write m i b) r))
    (hlast : ∀ i, i + 1 = n → ∀ m b r, step (receiving s l i m (b :: r)) = .next (g (Memory.write m i b) r))
    (fb : Memory) (q : List Byte) :
    steps bytes.length (receiving s l k fb (bytes ++ q)) = .next (g (Memory.writeRange fb k bytes) q) := by
  obtain rfl | ⟨front, b, rfl⟩ := bytes.eq_nil_or_concat'
  · rw [List.length_nil] at hn
    omega
  · rw [List.length_append, List.length_singleton] at hn ⊢
    rw [List.append_assoc, steps_add 1 (steps_receiving s l front ([b] ++ q) k fb fun i hi hlt => hcount i hi (by omega)),
      Memory.writeRange_append]
    exact steps_succ 0 (hlast _ (by omega) _ b q)

/-- A pop with a byte there and room for it in `FB`. -/
theorem enginePop_of_cons (f : Byte → State → State) {s : State} {b : Byte} {q : List Byte} (hq : s.rxq = b :: q)
    (hbc : s.bc.toNat < 265) : enginePop f s = .next (f b (popped b q s)) := by
  simp [enginePop, storePopped, hq, Config.frameMax, hbc, popped]

end Sys2Proof.Machine
end

section
/-! A drained frame (R167, R168, R212): its length is known from its first four bytes, and every byte takes one step. -/

namespace Sys2Proof.Machine

/-! ### One byte -/

/-- `TL` between the third byte of a frame, which tells its shape, and the fourth: a response's length is not known yet. -/
def shapeTarget : Shape → BitVec 9
  | .ack => 10#9
  | .ctl => 25#9
  | .rsp => 0#9

theorem drainLength_range (x : Shape) (b : Byte) : 10 ≤ (drainLength x b).toNat ∧ (drainLength x b).toNat ≤ 265 := by
  cases x with
  | ack | ctl => simp [drainLength]
  | rsp => exact ten_le_frameLength b

/-- The fourth byte settles the length of a frame of any shape (R168). -/
theorem drainTarget_of_shape {t : State} {x : Shape} (b : Byte) (hbc : t.bc = 3#9) (htl : t.tl = shapeTarget x)
    (hx : classifyShape (fbByte t 0) (fbByte t 1) (fbByte t 2) = some x) : drainTarget b t = drainLength x b := by
  rw [drainTarget, hbc, hx, htl]
  cases x <;> rfl

theorem classifyShape_of_fbHolds {t : State} {b0 b1 b2 b3 : Byte} (h : fbHolds t [b0, b1, b2, b3]) :
    classifyShape (fbByte t 0) (fbByte t 1) (fbByte t 2) = classifyShape b0 b1 b2 := by
  rw [fbByte_of_fbHolds h (k := 0) (by simp), fbByte_of_fbHolds h (k := 1) (by simp),
    fbByte_of_fbHolds h (k := 2) (by simp)]
  rfl

/-- No byte but the fourth changes the target length (R212). -/
theorem drainTarget_receiving (s : State) (l : BitVec 9) {k : Nat} (hk : k < 511) (h4 : k ≠ 3) (fb : Memory) (b : Byte)
    (q : List Byte) : drainTarget b (receiving s l k fb q) = l := by
  have hbc : (receiving s l k fb q).bc + 1#9 ≠ 4#9 := fun h =>
    h4 (by simpa using (receiving_bc_succ_eq_iff s l fb q hk _).mp h)
  simp [drainTarget, hbc]

/-- The third byte of a frame with a shape (R212). -/
theorem drainAfterStore_third {t : State} {b : Byte} {x : Shape} (hbc : t.bc = 2#9)
    (hx : classifyShape (fbByte t 0) (fbByte t 1) b = some x) :
    drainAfterStore b t = { t with bc := 3#9, tl := shapeTarget x } := by
  rw [drainAfterStore, hbc, hx]
  cases x <;> rfl

/-- Any other byte of a frame is counted, or ends the frame where the target length is reached (R212). -/
theorem drainAfterStore_other {t : State} (b : Byte) (hbc : t.bc + 1#9 ≠ 3#9) :
    drainAfterStore b t =
      if drainTarget b t ≠ 0#9 ∧ t.bc + 1#9 = drainTarget b t then { t with bc := 0#9, tl := 0#9 }
      else { t with bc := t.bc + 1#9, tl := drainTarget b t } := by
  rw [drainAfterStore, drainTarget]
  simp only [hbc, if_false]

/-- The drain pop takes a byte that has come. -/
theorem step_drainPop {t : State} {b : Byte} {q : List Byte} (hp : t.pending = []) (hg : draining t = true)
    (hq : t.rxq = b :: q) (hbc : t.bc.toNat < 265) : step t = .next (drainAfterStore b (popped b q t)) := by
  have hst : t.st = .drainPre ∨ t.st = .drainPost := by simpa [draining] using hg
  have hnext : engineNext t = some .stepDrainPop := by
    obtain hst | hst := hst <;> simp [engineNext, hst, hq]
  rw [step_engine hp hnext, ← enginePop_of_cons drainAfterStore hq hbc]
  simp [exec, execStepDrainPop, hg]

section Drain

variable {s : State} (hp : s.pending = []) (hg : draining s = true)
include hp hg

theorem step_draining (l : BitVec 9) {k : Nat} (hk : k < 265) (fb : Memory) (b : Byte) (q : List Byte) :
    step (receiving s l k fb (b :: q)) = .next (drainAfterStore b (receiving s l k (Memory.write fb k b) q)) := by
  rw [← popped_receiving s l fb q (by omega)]
  exact step_drainPop hp hg rfl (by rwa [receiving_bc_toNat s l fb _ (by omega)])

theorem step_draining_third {l : BitVec 9} {fb : Memory} {b : Byte} {q : List Byte} {x : Shape}
    (hx : classifyShape (fbByte (receiving s l 2 fb q) 0) (fbByte (receiving s l 2 fb q) 1) b = some x) :
    step (receiving s l 2 fb (b :: q)) = .next (receiving s (shapeTarget x) 3 (Memory.write fb 2 b) q) := by
  rw [step_draining hp hg l (by omega), drainAfterStore_third rfl]
  · rfl
  · simpa [fbByte, Memory.byteAt, Memory.read_write] using hx

theorem step_draining_counts {l l' : BitVec 9} {k : Nat} (hk : k < 265) (h3 : k ≠ 2) {fb : Memory} {b : Byte}
    {q : List Byte} (hb : drainTarget b (receiving s l k (Memory.write fb k b) q) = l')
    (hl : l' = 0#9 ∨ k + 1 ≠ l'.toNat) :
    step (receiving s l k fb (b :: q)) = .next (receiving s l' (k + 1) (Memory.write fb k b) q) := by
  have hbc := receiving_bc_succ_eq_iff s l (Memory.write fb k b) q (k := k) (by omega)
  have hthird : (receiving s l k (Memory.write fb k b) q).bc + 1#9 ≠ 3#9 := fun h => h3 (by simpa using (hbc _).mp h)
  have hend : ¬ (l' ≠ 0#9 ∧ (receiving s l k (Memory.write fb k b) q).bc + 1#9 = l') := by
    rw [hbc]
    tauto
  rw [step_draining hp hg l hk, drainAfterStore_other b hthird, hb, if_neg hend, receiving_bc_succ]
  rfl

/-- The last byte of a frame drops it (R212). -/
theorem step_draining_ends {l : BitVec 9} {k : Nat} (hlo : 4 ≤ k) (hk : k < 265) (hl : k + 1 = l.toNat) (fb : Memory)
    (b : Byte) (q : List Byte) :
    step (receiving s l k fb (b :: q)) = .next (receiving s 0#9 0 (Memory.write fb k b) q) := by
  have hbc := receiving_bc_succ_eq_iff s l (Memory.write fb k b) q (k := k) (by omega)
  have hthird : (receiving s l k (Memory.write fb k b) q).bc + 1#9 ≠ 3#9 := fun h => by
    have := (hbc _).mp h
    simp only [BitVec.toNat_ofNat] at this
    omega
  have hend : l ≠ 0#9 ∧ (receiving s l k (Memory.write fb k b) q).bc + 1#9 = l :=
    ⟨fun h => by simp [h] at hl, (hbc l).mpr hl⟩
  rw [step_draining hp hg l hk, drainAfterStore_other b hthird, drainTarget_receiving s l (by omega) (by omega),
    if_pos hend]
  rfl

/-! ### A whole frame -/

/-- The first four bytes of a frame with a shape (R167, R168, R212). -/
theorem steps_draining_head {b0 b1 b2 : Byte} {x : Shape} (hx : classifyShape b0 b1 b2 = some x) (b3 : Byte)
    (fb : Memory) (q : List Byte) :
    steps 4 (receiving s 0#9 0 fb ([b0, b1, b2, b3] ++ q)) =
      .next (receiving s (drainLength x b3) 4 (Memory.writeRange fb 0 [b0, b1, b2, b3]) q) := by
  have htwo : steps 2 (receiving s 0#9 0 fb ([b0, b1] ++ (b2 :: b3 :: q))) =
      .next (receiving s 0#9 2 (Memory.writeRange fb 0 [b0, b1]) (b2 :: b3 :: q)) := by
    refine steps_receiving s 0#9 [b0, b1] (b2 :: b3 :: q) 0 fb fun i _ hi m x r => ?_
    rw [List.length_cons, List.length_singleton] at hi
    exact step_draining_counts hp hg (by omega) (by omega) (drainTarget_receiving s _ (by omega) (by omega) ..) (.inl rfl)
  have hthird : step (receiving s 0#9 2 (Memory.writeRange fb 0 [b0, b1]) (b2 :: b3 :: q)) =
      .next (receiving s (shapeTarget x) 3 (Memory.writeRange fb 0 [b0, b1, b2]) (b3 :: q)) := by
    have hfb := fbHolds_of_writeRange (receiving_fb s 0#9 2 (Memory.writeRange fb 0 [b0, b1]) (b3 :: q))
    refine step_draining_third hp hg ?_
    rw [fbByte_of_fbHolds hfb (k := 0) (by simp), fbByte_of_fbHolds hfb (k := 1) (by simp)]
    exact hx
  have hfourth : step (receiving s (shapeTarget x) 3 (Memory.writeRange fb 0 [b0, b1, b2]) (b3 :: q)) =
      .next (receiving s (drainLength x b3) 4 (Memory.writeRange fb 0 [b0, b1, b2, b3]) q) := by
    have hfb := fbHolds_of_writeRange (receiving_fb s (shapeTarget x) 3 (Memory.writeRange fb 0 [b0, b1, b2, b3]) q)
    have hlong : 3 + 1 ≠ (drainLength x b3).toNat := by
      have := drainLength_range x b3
      omega
    exact step_draining_counts hp hg (by omega) (by omega)
      (drainTarget_of_shape b3 rfl rfl ((classifyShape_of_fbHolds hfb).trans hx)) (.inr hlong)
  exact (steps_add 2 htwo).trans ((steps_succ 1 hthird).trans (steps_succ 0 hfourth))

/-- The bytes of a frame after the fourth, up to its end (R212). -/
theorem steps_draining_rest {l : BitVec 9} (hmax : l.toNat ≤ 265) {k : Nat} (hlo : 4 ≤ k) (hk : k < l.toNat) {c : List Byte}
    (hc : k + c.length = l.toNat) (fb : Memory) (q : List Byte) :
    steps c.length (receiving s l k fb (c ++ q)) = .next (receiving s 0#9 0 (Memory.writeRange fb k c) q) := by
  refine steps_receiving_last hk hc (fun i hi hlt m b r => ?counts) (fun i hi m b r => ?ends) fb q
  case counts =>
    exact step_draining_counts hp hg (by omega) (by omega) (drainTarget_receiving s l (by omega) (by omega) ..)
      (.inr (by omega))
  case ends => exact step_draining_ends hp hg (by omega) (by omega) hi m b r

/-- A whole frame with a shape takes as many steps as its length, and leaves the queue at the next frame's first byte
(R168, R212). -/
theorem steps_drainFrame (hbc : s.bc = 0#9) (htl : s.tl = 0#9) {b0 b1 b2 b3 : Byte} {x : Shape}
    (hx : classifyShape b0 b1 b2 = some x) {n : Nat} (hn : (drainLength x b3).toNat = n) {c : List Byte}
    (hc : 4 + c.length = n) (fb : Memory) (q : List Byte) :
    steps n { s with fb := fb, rxq := [b0, b1, b2, b3] ++ (c ++ q) } =
      .next { s with fb := Memory.writeRange fb 0 ([b0, b1, b2, b3] ++ c), rxq := q } := by
  obtain ⟨hmin, hmax⟩ := drainLength_range x b3
  rw [← receiving_zero _ _ hbc htl, ← receiving_zero _ _ hbc htl, ← hc,
    steps_add c.length (steps_draining_head hp hg hx b3 fb (c ++ q)), Memory.writeRange_append]
  exact steps_draining_rest hp hg hmax le_rfl (by omega) (hc.trans hn.symm) _ q

end Drain

/-- Settles O19: the lengths of the three shapes, and two frames drained one after the other. -/
theorem drainDiscardsStaleFrames : Obligations.DrainDiscardsStaleFrames := by
  refine ⟨fun b3 s => ⟨⟨_, rfl, rfl⟩, ⟨_, rfl, rfl⟩, ⟨_, rfl, frameLength_toNat b3⟩⟩, ?_⟩
  intro a c n s hst hbc htl hp ha hc hq
  have hg : draining s = true := by simpa [draining] using hst
  obtain ⟨a3, a, rfl⟩ := List.exists_cons_of_length_eq_add_one ha
  rw [List.length_cons] at ha
  have hack := steps_drainFrame hp hg hbc htl (b0 := 0xAA#8) (b1 := 0x55#8) (b2 := 0x40#8) (b3 := a3) (x := .ack) (n := 10)
    rfl rfl (c := a) (by omega) s.fb ([0xAA#8, 0x55#8, 0x80#8, n] ++ (c ++ []))
  have hqueue : [0xAA#8, 0x55#8, 0x40#8, a3] ++ (a ++ ([0xAA#8, 0x55#8, 0x80#8, n] ++ (c ++ []))) = s.rxq := by
    simp [hq]
  rw [hqueue] at hack
  refine ⟨_, fun k hk => ?frame, (steps_add _ hack).trans
    (steps_drainFrame hp hg hbc htl (x := .rsp) rfl (frameLength_toNat n) (by omega) _ [])⟩
  case frame =>
    rw [Memory.read_writeRange_outside _ _ _ (.inr (by simp; omega)),
      Memory.read_writeRange_outside _ _ _ (.inr (by simp; omega))]

end Sys2Proof.Machine
end

section
/-! A response that echoes the request (R220 to R223): its bytes are counted into `FB`, checked after the header and after the
last byte, acknowledged, and the exchange is done. -/

namespace Sys2Proof.Machine

/-! ### One step -/

/-- The body check of a response that passes it captures the result (R221). -/
theorem rspBody_of_accepted {t : State} {r : BodyFields}
    (h : parseResponseBody (fbByte t) t.desc.tc t.desc.iid t.desc.cid t.cnt = .ok r) :
    rspBody t =
      { t with rseq := r.seq, plen := fbByte t 3 - 8#8, pbuf := Memory.ofBytes 0 r.payload, st := .rspAcked } := by
  rw [rspBody, h]

theorem step_sendAck {t : State} (hp : t.pending = []) (hst : t.st = .rspAcked) :
    step t = .next { pushFrame (encodeAck t.rseq) t with st := .drainPost, bc := 0#9, tl := 0#9 } := by
  rw [step_engine (i := .stepSendAck) hp (by simp [engineNext, hst])]
  simp [exec, execStepSendAck, hst]

theorem step_drainPostDone {t : State} (hp : t.pending = []) (hst : t.st = .drainPost) (hbc : t.bc = 0#9)
    (hq : t.rxq = []) : step t = .next { advanceCounters t with st := .done } := by
  rw [step_engine (i := .stepDrainPostDone) hp (by simp [engineNext, hst, hbc, hq])]
  simp [exec, execStepDrainPostDone, hst, hbc, hq]

/-- A captured response is acknowledged, and the drain that finds nothing ends the exchange (R222, R223). -/
theorem steps_rspAcked {t : State} (hp : t.pending = []) (hst : t.st = .rspAcked) (hq : t.rxq = []) :
    steps 2 t = .next { t with
      st := .done, bc := 0#9, tl := 0#9, txq := t.txq ++ encodeAck t.rseq, seq := t.seq + 1#8, cnt := t.cnt + 1#16 } := by
  rw [steps_succ 1 (step_sendAck hp hst), steps_succ 0 (step_drainPostDone ?_ rfl rfl ?_)]
  exacts [rfl, hp, hq]

/-- A byte before the last of a response is counted, and the header is checked at the eighth (R220). -/
theorem step_rspPop {t : State} {b : Byte} {q : List Byte} (hp : t.pending = []) (hst : t.st = .awaitRsp)
    (hq : t.rxq = b :: q) (hacc : accumulatingResponse t = true) (hlast : lastOfResponse t = false)
    (hbc : t.bc.toNat < 265) :
    step t = .next (if (popped b q t).bc = 7#9 then rspHeaderCheck (countPop (popped b q t)) else countPop (popped b q t)) := by
  rw [step_engine (i := .stepRspPop) hp (by simp [engineNext, hst, hq, hacc, hlast]),
    ← enginePop_of_cons (fun _ u => if u.bc = 7#9 then rspHeaderCheck (countPop u) else countPop u) hq hbc]
  simp [exec, execStepRspPop, hacc, hlast]

/-- The last byte of a response is counted, and the body is checked (R221). -/
theorem step_rspBody {t : State} {b : Byte} {q : List Byte} (hp : t.pending = []) (hst : t.st = .awaitRsp)
    (hq : t.rxq = b :: q) (hacc : accumulatingResponse t = true) (hlast : lastOfResponse t = true)
    (hbc : t.bc.toNat < 265) : step t = .next (rspBody (countPop (popped b q t))) := by
  rw [step_engine (i := .stepRspBody) hp (by simp [engineNext, hst, hq, hacc, hlast]),
    ← enginePop_of_cons (fun _ u => rspBody (countPop u)) hq hbc]
  simp [exec, execStepRspBody, hacc, hlast]

/-! ### The frame -/

theorem rspFrame_length (r q : Byte) (payload : List Byte) : (rspFrame r q payload).length = payload.length + 10 := by
  simp only [rspFrame, List.length_append, headBytes_length, List.length_cons, List.length_nil]
  omega

theorem rspFrame_parts (r q : Byte) (payload : List Byte) :
    rspFrame r q payload = headBytes 0x80#8 (BitVec.ofNat 8 payload.length) r q ++
      (payload ++ [loByte (crc16 payload), hiByte (crc16 payload)]) := List.append_assoc ..

/-- A response that echoes the request passes the body check, which yields its `seq` and its raw payload; the length byte is 8
more than the raw payload's length (R165, R166). -/
theorem parseResponseBody_of_echoFrame {f : Nat → Byte} {tc iid cid r q : Byte} {cnt : Half} {raw : List Byte}
    (hraw : raw.length ≤ 247) (hf : slice f 0 (raw.length + 18) = rspFrame r q (echoPrefix tc iid cid cnt ++ raw)) :
    parseResponseBody f tc iid cid cnt = .ok ⟨q, raw⟩ ∧ f 3 - 8#8 = BitVec.ofNat 8 raw.length := by
  have hhead := hf
  rw [rspFrame_parts, show raw.length + 18 = 8 + (raw.length + 10) by omega,
    slice_eq_append_iff f 0 (headBytes_length ..)] at hhead
  obtain ⟨-, -, -, h3, h4, -, -⟩ := header_of_headBytes hhead.1
  refine ⟨((responsesAcceptedExactly f tc iid cid cnt q raw).mpr ⟨hraw, ?frame⟩).2, ?length⟩
  case frame => rw [map_range_eq_slice, hf, h4]
  case length =>
    rw [h3, List.length_append, echoPrefix_length, Nat.add_comm, BitVec.ofNat_add]
    exact BitVec.add_sub_cancel ..

section Response

variable {s : State} (hp : s.pending = []) (hst : s.st = .awaitRsp)

include hst in
theorem accumulatingResponse_receiving (l : BitVec 9) {k : Nat} (hk : k < 512) (fb : Memory) (q : List Byte) :
    accumulatingResponse (receiving s l k fb q) = decide (k < 8 ∨ k < l.toNat) := by
  have hl : k < l.toNat → l ≠ 0#9 := fun h h0 => by simp [h0] at h
  have hiff : (k < 8 ∨ l ≠ 0#9 ∧ k < l.toNat) ↔ (k < 8 ∨ k < l.toNat) := by tauto
  simp [accumulatingResponse, receiving_bc_toNat s l fb q hk, hst, ← hiff, bne, beq_eq_decide]

theorem lastOfResponse_receiving (s : State) (l : BitVec 9) {k : Nat} (hk : k < 512) (fb : Memory) (q : List Byte) :
    lastOfResponse (receiving s l k fb q) = decide (8 ≤ k ∧ k + 1 = l.toNat) := by
  simp [lastOfResponse, receiving_bc_toNat s l fb q hk, beq_eq_decide]

include hp hst

theorem step_receiving_rspPop {l : BitVec 9} {k : Nat} (hk : k < 8 ∨ k + 1 < l.toNat) (hmax : k < 265) (fb : Memory)
    (b : Byte) (q : List Byte) :
    step (receiving s l k fb (b :: q)) =
      .next (if k = 7 then rspHeaderCheck (receiving s l (k + 1) (Memory.write fb k b) q)
        else receiving s l (k + 1) (Memory.write fb k b) q) := by
  have hacc : accumulatingResponse (receiving s l k fb (b :: q)) = true := by
    rw [accumulatingResponse_receiving hst l (by omega), decide_eq_true_iff]
    omega
  have hlast : lastOfResponse (receiving s l k fb (b :: q)) = false := by
    rw [lastOfResponse_receiving s l (by omega), decide_eq_false_iff_not]
    omega
  have hbc : (receiving s l k fb (b :: q)).bc.toNat < 265 := by rwa [receiving_bc_toNat s l fb _ (by omega)]
  have h7 : (receiving s l k (Memory.write fb k b) q).bc = 7#9 ↔ k = 7 := by
    rw [← BitVec.toNat_inj, receiving_bc_toNat s l _ q (by omega)]
    rfl
  rw [step_rspPop (t := receiving s l k fb (b :: q)) hp hst rfl hacc hlast hbc, popped_receiving s l fb q (by omega),
    countPop_receiving]
  simp only [h7]

theorem step_receiving_rspBody {l : BitVec 9} {k : Nat} (hk : 8 ≤ k ∧ k + 1 = l.toNat) (hmax : k < 265) (fb : Memory)
    (b : Byte) (q : List Byte) :
    step (receiving s l k fb (b :: q)) = .next (rspBody (receiving s l (k + 1) (Memory.write fb k b) q)) := by
  have hacc : accumulatingResponse (receiving s l k fb (b :: q)) = true := by
    rw [accumulatingResponse_receiving hst l (by omega), decide_eq_true_iff]
    omega
  have hlast : lastOfResponse (receiving s l k fb (b :: q)) = true := by
    rw [lastOfResponse_receiving s l (by omega), decide_eq_true_iff]
    exact hk
  have hbc : (receiving s l k fb (b :: q)).bc.toNat < 265 := by rwa [receiving_bc_toNat s l fb _ (by omega)]
  rw [step_rspBody (t := receiving s l k fb (b :: q)) hp hst rfl hacc hlast hbc, popped_receiving s l fb q (by omega),
    countPop_receiving]

/-! ### A whole response -/

/-- The eight header bytes of a response set the target length to the whole frame's (R220). -/
theorem steps_responseHeader (n r q : Byte) (fb : Memory) (rest : List Byte) :
    steps 8 (receiving s 0#9 0 fb (headBytes 0x80#8 n r q ++ rest)) =
      .next (receiving s (frameLength n) 8 (Memory.writeRange fb 0 (headBytes 0x80#8 n r q)) rest) := by
  have hseven : steps 7 (receiving s 0#9 0 fb (headBytes 0x80#8 n r q ++ rest)) =
      .next (receiving s 0#9 7 (Memory.writeRange fb 0 ((headBytes 0x80#8 n r q).take 7))
        (hiByte (crc16 [0x80#8, n, r, q]) :: rest)) := by
    refine steps_receiving s 0#9 ((headBytes 0x80#8 n r q).take 7) _ 0 fb fun i _ hi m x rest => ?_
    have hi : i < 7 := by simpa [headBytes] using hi
    rw [step_receiving_rspPop hp hst (by omega) (by omega), if_neg (by omega)]
  have hhead : parseResponseHeader
      (fbByte (receiving s 0#9 8 (Memory.writeRange fb 0 (headBytes 0x80#8 n r q)) rest)) = .ok n :=
    parseResponseHeader_of_headBytes (slice_of_fbHolds (fbHolds_of_writeRange (receiving_fb ..)))
  have heighth : step (receiving s 0#9 7 (Memory.writeRange fb 0 ((headBytes 0x80#8 n r q).take 7))
      (hiByte (crc16 [0x80#8, n, r, q]) :: rest)) =
      .next (rspHeaderCheck (receiving s 0#9 8 (Memory.writeRange fb 0 (headBytes 0x80#8 n r q)) rest)) :=
    step_receiving_rspPop hp hst (by omega) (by omega) _ _ rest
  rw [steps_add 1 hseven, steps_succ 0 heighth, rspHeaderCheck, hhead]
  rfl

/-- The bytes of a response after the header, up to its end, where the body is checked (R220, R221). -/
theorem steps_responseBody {l : BitVec 9} (hmin : 8 < l.toNat) (hmax : l.toNat ≤ 265) {c : List Byte}
    (hc : 8 + c.length = l.toNat) (fb : Memory) (rest : List Byte) :
    steps c.length (receiving s l 8 fb (c ++ rest)) =
      .next (rspBody (receiving s l l.toNat (Memory.writeRange fb 8 c) rest)) := by
  refine steps_receiving_last hmin hc (g := fun m q => rspBody (receiving s l l.toNat m q)) (fun i hi hlt m b r => ?counts)
    (fun i hi m b r => ?ends) fb rest
  case counts => rw [step_receiving_rspPop hp hst (by omega) (by omega), if_neg (by omega)]
  case ends => rw [step_receiving_rspBody hp hst (by omega) (by omega), hi]

/-- A whole response, from its first byte to the body check at its last (R108, R220, R221). -/
theorem steps_response (r q : Byte) {payload : List Byte} (hmax : payload.length ≤ 255) (fb : Memory) :
    steps (payload.length + 10) (receiving s 0#9 0 fb (rspFrame r q payload)) =
      .next (rspBody (receiving s (frameLength (BitVec.ofNat 8 payload.length)) (payload.length + 10)
        (Memory.writeRange fb 0 (rspFrame r q payload)) [])) := by
  have hl : (frameLength (BitVec.ofNat 8 payload.length)).toNat = payload.length + 10 := by
    rw [frameLength_toNat, BitVec.toNat_ofNat, Nat.mod_eq_of_lt (by omega)]
  have hbody := steps_responseBody hp hst (l := frameLength (BitVec.ofNat 8 payload.length)) (by omega) (by omega)
    (c := payload ++ [loByte (crc16 payload), hiByte (crc16 payload)]) (by rw [hl, List.length_append]; simp; omega)
    (Memory.writeRange fb 0 (headBytes 0x80#8 (BitVec.ofNat 8 payload.length) r q)) []
  rw [hl, List.append_nil, List.length_append] at hbody
  rw [rspFrame_parts, Memory.writeRange_append, headBytes_length, ← hbody,
    show payload.length + 10 = 8 + (payload.length + 2) by omega]
  exact steps_add _ (steps_responseHeader hp hst _ r q fb _)

end Response

/-- Settles O58: the frame is captured, and the acknowledgement and the end of the drain take one step each. -/
theorem responseCompletesTheExchange : Obligations.ResponseCompletesTheExchange := by
  intro s r q raw hst hbc htl hp hraw hq
  have hlen : (echoPrefix s.desc.tc s.desc.iid s.desc.cid s.cnt ++ raw).length + 10 = raw.length + 18 := by
    rw [List.length_append, echoPrefix_length]
    omega
  have hframe := steps_response hp hst r q (payload := echoPrefix s.desc.tc s.desc.iid s.desc.cid s.cnt ++ raw) (by omega) s.fb
  rw [hlen, receiving_zero _ _ hbc htl, ← hq] at hframe
  generalize frameLength _ = l at hframe
  have hqlen : s.rxq.length = raw.length + 18 := by rw [hq, rspFrame_length, hlen]
  have hfb := slice_of_fbHolds (fbHolds_of_writeRange (receiving_fb s l (raw.length + 18) (Memory.writeRange s.fb 0 s.rxq) []))
  obtain ⟨hbody, hplen⟩ := parseResponseBody_of_echoFrame hraw ((hqlen ▸ hfb).trans hq)
  rw [rspBody_of_accepted hbody, hplen] at hframe
  refine ⟨_, _, fun k hk => ?rest, (steps_add 2 hframe).trans (steps_rspAcked ?pending rfl rfl), fun a => ?captured⟩
  case rest => exact Memory.read_writeRange_outside _ _ _ (.inr (by omega))
  case pending => exact hp
  case captured => rw [Memory.read_ofBytes, if_pos (Nat.zero_le a), Nat.sub_zero]

end Sys2Proof.Machine
end

section
/-! The counters under repeated `advance` (R201): what `k` of them do to `SEQ` and `CNT`, and the periods (R203). -/

namespace Sys2Proof.Machine

theorem exec_advance (s : State) : exec .advance s = .next (advanceCounters s) := rfl

/-- A counter goes up by one and then by `k`, modulo its width. -/
theorem add_one_add_ofNat {w : Nat} (x : BitVec w) (k : Nat) : x + 1#w + BitVec.ofNat w k = x + BitVec.ofNat w (k + 1) := by
  rw [BitVec.add_assoc, ← BitVec.ofNat_add, Nat.add_comm]

/-- A counter comes back where its period divides the number of steps. -/
theorem add_ofNat_of_dvd {w k : Nat} (x : BitVec w) (h : 2 ^ w ∣ k) : x + BitVec.ofNat w k = x := by
  have hzero : BitVec.ofNat w k = 0#w := BitVec.eq_of_toNat_eq (by simp [Nat.mod_eq_zero_of_dvd h])
  rw [hzero, BitVec.add_zero]

/-- Each of `k` advances adds one to both counters, silently modulo their widths (R201, R203). -/
theorem execAll_replicate_advance (k : Nat) (s : State) :
    execAll (List.replicate k .advance) s =
      .next { s with seq := s.seq + BitVec.ofNat 8 k, cnt := s.cnt + BitVec.ofNat 16 k } := by
  induction k generalizing s with
  | zero => simp
  | succ k ih =>
    rw [List.replicate_succ, execAll_cons _ (exec_advance s), ih, advanceCounters_seq, advanceCounters_cnt,
      add_one_add_ofNat, add_one_add_ofNat]
    rfl

/-- Settles O48: `k` advances add `k` to each counter, and the periods divide 256 and 65536. -/
theorem countersArePeriodic : Obligations.CountersArePeriodic := by
  refine ⟨fun k s => ⟨_, execAll_replicate_advance k s, rfl, ?seq, ?cnt⟩, exec_advance,
    fun s => ⟨s.cnt + BitVec.ofNat 16 256, ?seqPeriod⟩, fun s => ?bothPeriods⟩
  case seq => simp [BitVec.toNat_add]
  case cnt => simp [BitVec.toNat_add]
  case seqPeriod => rw [execAll_replicate_advance, add_ofNat_of_dvd s.seq (by decide)]
  case bothPeriods =>
    rw [execAll_replicate_advance, add_ofNat_of_dvd s.seq (by decide), add_ofNat_of_dvd s.cnt (by decide)]

end Sys2Proof.Machine
end

section
/-! The engine's rows: which of them a state enables (R229, R230), what the timeout does (R332), and that a waiting engine
stays as it is (R227). -/

namespace Sys2Proof.Machine

/-! ### The table of enabled steps (R229), state by state -/

theorem engineNext_of_ended {s : State} (hst : s.st = .idle ∨ s.st = .done ∨ s.st = .aborted ∨ s.st = .faulted) :
    engineNext s = none := by
  obtain hst | hst | hst | hst := hst <;> simp [engineNext, hst]

theorem engineNext_of_drain_byte {s : State} (hst : s.st = .drainPre ∨ s.st = .drainPost) (hq : s.rxq ≠ []) :
    engineNext s = some .stepDrainPop := by
  obtain hst | hst := hst <;> simp [engineNext, hst, hq]

theorem engineNext_of_drainPre_empty {s : State} (hst : s.st = .drainPre) (hq : s.rxq = []) :
    engineNext s = if s.bc = 0#9 then some .stepDrainPreDone else none := by
  simp [engineNext, hst, hq]

theorem engineNext_of_drainPost_empty {s : State} (hst : s.st = .drainPost) (hq : s.rxq = []) :
    engineNext s = if s.bc = 0#9 then some .stepDrainPostDone else none := by
  simp [engineNext, hst, hq]

theorem engineNext_of_requestSent {s : State} (hst : s.st = .requestSent) : engineNext s = some .stepSendRequest := by
  simp [engineNext, hst]

theorem engineNext_of_retrying {s : State} (hst : s.st = .retrying) : engineNext s = some .stepRetransmit := by
  simp [engineNext, hst]

theorem engineNext_of_rspAcked {s : State} (hst : s.st = .rspAcked) : engineNext s = some .stepSendAck := by
  simp [engineNext, hst]

theorem engineNext_of_await_empty {s : State} (hst : s.st = .awaitAck ∨ s.st = .awaitRsp) (hq : s.rxq = []) :
    engineNext s = none := by
  obtain hst | hst := hst <;> simp [engineNext, hst, hq]

theorem engineNext_of_awaitAck_byte {s : State} (hst : s.st = .awaitAck) (hq : s.rxq ≠ []) :
    engineNext s = if s.bc.toNat < 9 then some .stepAckPop else if s.bc = 9#9 then some .stepAckOutcome else none := by
  simp [engineNext, hst, hq]

theorem engineNext_of_awaitRsp_byte {s : State} (hst : s.st = .awaitRsp) (hq : s.rxq ≠ []) :
    engineNext s = if accumulatingResponse s then
      (if lastOfResponse s then some .stepRspBody else some .stepRspPop) else none := by
  simp only [engineNext, hst]
  cases accumulatingResponse s <;> simp [hq]

/-- The guard of the pop in `AWAIT_RSP` (R220). -/
theorem accumulatingResponse_iff (s : State) :
    accumulatingResponse s = true ↔ s.st = .awaitRsp ∧ (s.bc.toNat < 8 ∨ (s.tl ≠ 0#9 ∧ s.bc.toNat < s.tl.toNat)) := by
  simp [accumulatingResponse]

theorem lastOfResponse_iff (s : State) : lastOfResponse s = true ↔ 8 ≤ s.bc.toNat ∧ s.bc.toNat + 1 = s.tl.toNat := by
  simp [lastOfResponse]

theorem draining_iff (s : State) : draining s = true ↔ s.st = .drainPre ∨ s.st = .drainPost := by
  simp [draining]

/-- Settles O46, by the laws of the table above. -/
theorem enabledStepTable : Obligations.EnabledStepTable := by
  refine fun s b q => ⟨engineNext_of_ended, fun hst hq => engineNext_of_drain_byte hst (by simp [hq]),
    engineNext_of_drainPre_empty, engineNext_of_drainPost_empty, engineNext_of_requestSent, engineNext_of_retrying,
    engineNext_of_rspAcked, engineNext_of_await_empty, fun hst hq hbc => ?ack, fun hst hq hg => ?rsp⟩
  case ack =>
    rw [engineNext_of_awaitAck_byte hst (by simp [hq])]
    split
    · rfl
    · next hge => rw [if_pos (BitVec.eq_of_toNat_eq (y := 9#9) (by simp; omega))]
  case rsp =>
    rw [engineNext_of_awaitRsp_byte hst (by simp [hq]), if_pos ((accumulatingResponse_iff s).mpr ⟨hst, hg⟩)]
    simp only [lastOfResponse_iff]

/-! ### An engine row acts exactly where it is enabled (R229, R230) -/

/-- The guard of each engine row, in full (R212 to R223, R229). -/
def Enabled (s : State) : Instr → Prop
  | .stepDrainPop => draining s = true ∧ s.rxq ≠ []
  | .stepDrainPreDone => s.st = .drainPre ∧ s.bc = 0#9 ∧ s.rxq = []
  | .stepSendRequest => s.st = .requestSent
  | .stepAckPop => (s.st = .awaitAck ∧ s.bc.toNat < 9) ∧ s.rxq ≠ []
  | .stepAckOutcome => (s.st = .awaitAck ∧ s.bc = 9#9) ∧ s.rxq ≠ []
  | .stepRetransmit => s.st = .retrying
  | .stepRspPop => (accumulatingResponse s = true ∧ lastOfResponse s = false) ∧ s.rxq ≠ []
  | .stepRspBody => (accumulatingResponse s = true ∧ lastOfResponse s = true) ∧ s.rxq ≠ []
  | .stepSendAck => s.st = .rspAcked
  | .stepDrainPostDone => s.st = .drainPost ∧ s.bc = 0#9 ∧ s.rxq = []
  | _ => False

/-- A row whose guard holds is the one that the table names, so no two rows are enabled together. -/
theorem engineNext_of_enabled {s : State} {i : Instr} (h : Enabled s i) : engineNext s = some i := by
  cases i with
  | stepDrainPop => exact engineNext_of_drain_byte ((draining_iff s).mp h.1) h.2
  | stepDrainPreDone => rw [engineNext_of_drainPre_empty h.1 h.2.2, if_pos h.2.1]
  | stepSendRequest => exact engineNext_of_requestSent h
  | stepAckPop => rw [engineNext_of_awaitAck_byte h.1.1 h.2, if_pos h.1.2]
  | stepAckOutcome =>
    obtain ⟨⟨hst, hbc⟩, hq⟩ := h
    rw [engineNext_of_awaitAck_byte hst hq, if_neg (by simp [hbc]), if_pos hbc]
  | stepRetransmit => exact engineNext_of_retrying h
  | stepRspPop =>
    obtain ⟨⟨hacc, hlast⟩, hq⟩ := h
    simp [engineNext_of_awaitRsp_byte (awaitRsp_of_accumulating hacc) hq, hacc, hlast]
  | stepRspBody =>
    obtain ⟨⟨hacc, hlast⟩, hq⟩ := h
    simp [engineNext_of_awaitRsp_byte (awaitRsp_of_accumulating hacc) hq, hacc, hlast]
  | stepSendAck => exact engineNext_of_rspAcked h
  | stepDrainPostDone => rw [engineNext_of_drainPost_empty h.1 h.2.2, if_pos h.2.1]
  | _ => cases h

/-- The row that the table names has its guard. -/
theorem enabled_of_engineNext {s : State} {i : Instr} (h : engineNext s = some i) : Enabled s i := by
  cases hst : s.st with
  | idle | done | aborted | faulted => simp [engineNext_of_ended, hst] at h
  | requestSent =>
    cases (engineNext_of_requestSent hst).symm.trans h
    exact hst
  | retrying =>
    cases (engineNext_of_retrying hst).symm.trans h
    exact hst
  | rspAcked =>
    cases (engineNext_of_rspAcked hst).symm.trans h
    exact hst
  | drainPre =>
    by_cases hq : s.rxq = []
    · rw [engineNext_of_drainPre_empty hst hq, Option.ite_none_right_eq_some] at h
      obtain ⟨hbc, ⟨⟩⟩ := h
      exact ⟨hst, hbc, hq⟩
    · cases (engineNext_of_drain_byte (.inl hst) hq).symm.trans h
      exact ⟨(draining_iff s).mpr (.inl hst), hq⟩
  | drainPost =>
    by_cases hq : s.rxq = []
    · rw [engineNext_of_drainPost_empty hst hq, Option.ite_none_right_eq_some] at h
      obtain ⟨hbc, ⟨⟩⟩ := h
      exact ⟨hst, hbc, hq⟩
    · cases (engineNext_of_drain_byte (.inr hst) hq).symm.trans h
      exact ⟨(draining_iff s).mpr (.inr hst), hq⟩
  | awaitAck =>
    by_cases hq : s.rxq = []
    · simp [engineNext_of_await_empty (.inl hst) hq] at h
    · rw [engineNext_of_awaitAck_byte hst hq] at h
      split_ifs at h with hlt hbc <;> cases h
      exacts [⟨⟨hst, hlt⟩, hq⟩, ⟨⟨hst, hbc⟩, hq⟩]
  | awaitRsp =>
    by_cases hq : s.rxq = []
    · simp [engineNext_of_await_empty (.inr hst) hq] at h
    · rw [engineNext_of_awaitRsp_byte hst hq] at h
      split_ifs at h with hacc hlast <;> cases h
      exacts [⟨⟨hacc, hlast⟩, hq⟩, ⟨⟨hacc, by simpa using hlast⟩, hq⟩]

/-- The table names a row exactly where the row's guard holds. -/
theorem engineNext_eq_some_iff {s : State} {i : Instr} : engineNext s = some i ↔ Enabled s i :=
  ⟨enabled_of_engineNext, engineNext_of_enabled⟩

/-- A guarded pop acts where its guard holds and a byte has come: it takes the byte from the queue, or stops. -/
theorem guardedPop_acts_iff {g : Bool} {f : Byte → State → State} {s : State}
    (hf : ∀ b q, (f b (popped b q s)).rxq = q) :
    whenEnabled g (enginePop f s) s ≠ .next s ↔ g = true ∧ s.rxq ≠ [] := by
  cases g with
  | false => simp
  | true =>
    rw [whenEnabled_true]
    obtain ⟨hq, e⟩ | ⟨b, q, hq, -, e⟩ | ⟨hq, -, e⟩ := enginePop_cases f s <;> rw [e]
    · simp [hq]
    · refine iff_of_true (fun h => ?_) ⟨rfl, by simp [hq]⟩
      have hrxq : q = s.rxq := (hf b q).symm.trans (congrArg State.rxq (Host.Outcome.next.inj h))
      exact absurd (hrxq.trans hq) (by simp)
    · simp [hq]

/-- A guarded plain step that moves `ST` acts where its guard holds. -/
theorem guardedStep_acts_iff {g : Bool} {u s : State} (hu : g = true → u.st ≠ s.st) :
    whenEnabled g (.next u) s ≠ .next s ↔ g = true := by
  cases g with
  | false => simp
  | true => exact iff_of_true (fun h => hu rfl (congrArg State.st (Host.Outcome.next.inj h))) rfl

@[simp] theorem drainAfterStore_rxq (b : Byte) (s : State) : (drainAfterStore b s).rxq = s.rxq := by
  obtain ⟨-, -, e⟩ | ⟨-, x, -, e⟩ | ⟨-, l, -, e⟩ := drainAfterStore_cases b s <;> rw [e]
  · rfl
  · split <;> rfl

@[simp] theorem ackOutcome_rxq (s : State) : (ackOutcome s).rxq = s.rxq := by
  obtain ⟨k, -, e⟩ | ⟨r, -, ⟨-, e⟩ | ⟨-, -, e⟩ | ⟨-, -, e⟩⟩ := ackOutcome_cases s <;> simp [e]

@[simp] theorem rspHeaderCheck_rxq (s : State) : (rspHeaderCheck s).rxq = s.rxq := by
  obtain ⟨k, -, e⟩ | ⟨n, -, e⟩ := rspHeaderCheck_cases s <;> simp [e]

@[simp] theorem rspBody_rxq (s : State) : (rspBody s).rxq = s.rxq := by
  obtain ⟨k, -, e⟩ | ⟨r, -, e⟩ := rspBody_cases s <;> simp [e]

/-- An engine row changes the state, or stops, exactly where its guard holds (log entry 3). -/
theorem exec_acts_iff {i : Instr} (hi : isEngineStep i = true) (s : State) : exec i s ≠ .next s ↔ Enabled s i := by
  have hagent : agentOf i = some .engine := by simpa [isEngineStep] using hi
  cases i with
  | stepDrainPop => exact guardedPop_acts_iff fun b q => drainAfterStore_rxq b _
  | stepAckPop =>
    refine (guardedPop_acts_iff fun b q => ?_).trans (by simp [Enabled])
    rfl
  | stepAckOutcome =>
    refine (guardedPop_acts_iff fun b q => ?_).trans (by simp [Enabled])
    exact ackOutcome_rxq _
  | stepRspPop =>
    refine (guardedPop_acts_iff fun b q => ?_).trans (by simp [Enabled])
    split
    exacts [rspHeaderCheck_rxq _, rfl]
  | stepRspBody =>
    refine (guardedPop_acts_iff fun b q => ?_).trans (by simp [Enabled])
    exact rspBody_rxq _
  | stepDrainPreDone | stepSendRequest | stepRetransmit | stepSendAck | stepDrainPostDone =>
    refine (guardedStep_acts_iff fun hg => ?_).trans (by simp [Enabled, and_assoc])
    simp only [Bool.and_eq_true, beq_iff_eq] at hg
    simp [hg]
  | _ => cases hagent

/-- Settles O45: an engine row acts exactly where its guard holds, and that is where the table names it. -/
theorem engineStepsAreDeterministic : Obligations.EngineStepsAreDeterministic :=
  fun _ s hi => (exec_acts_iff hi s).trans engineNext_eq_some_iff.symm

/-- An engine row without its guard changes nothing (log entry 3). -/
theorem exec_rests {i : Instr} (hi : isEngineStep i = true) {s : State} (h : ¬ Enabled s i) : exec i s = .next s :=
  not_not.mp ((exec_acts_iff hi s).not.mpr h)

/-! ### The rows that take no byte -/

/-- A row whose guard holds is its step. -/
theorem whenEnabled_of {g : Bool} (hg : g = true) (o : Host.Outcome State Fault Refusal) (s : State) :
    whenEnabled g o s = o := by
  rw [hg, whenEnabled_true]

theorem exec_stepSendRequest {s : State} (hst : s.st = .requestSent) : exec .stepSendRequest s = .next (sendRequest s) :=
  whenEnabled_of (by simp [hst]) _ s

theorem exec_stepRetransmit {s : State} (hst : s.st = .retrying) :
    exec .stepRetransmit s = .next { sendRequest s with retry := true, retried := true } :=
  whenEnabled_of (by simp [hst]) _ s

/-- Settles O40: where both guards hold the steps are those of the rows, and elsewhere neither row is enabled. -/
theorem drainComplete : Obligations.DrainComplete := by
  refine ⟨fun s hst hbc hq => ?pre, fun s hst hbc hq => ?post, fun s h => ?notPre, fun s h => ?notPost⟩
  case pre | post => exact whenEnabled_of (by simp [hst, hbc, hq]) _ s
  case notPre | notPost => exact exec_rests rfl (by simp only [Enabled]; tauto)

/-- Settles O41, row by row. -/
theorem enginePushesFrames : Obligations.EnginePushesFrames :=
  fun s => ⟨exec_stepSendRequest, exec_stepRetransmit, fun hst => whenEnabled_of (by simp [hst]) _ s⟩

/-! ### Waiting and the timeout (R227, R332) -/

theorem engineWaiting_iff (s : State) :
    engineWaiting s = true ↔
      s.rxq = [] ∧ (s.st = .awaitAck ∨ s.st = .awaitRsp ∨ ((s.st = .drainPre ∨ s.st = .drainPost) ∧ 0 < s.bc.toNat)) := by
  have hbc : 0 < s.bc.toNat ↔ s.bc ≠ 0#9 := by bv_omega
  simp [engineWaiting, hbc, or_assoc]

theorem exec_stepTimeout_fires {s : State} (htmo : s.cfg.tmoEn = true) (hw : engineWaiting s = true) :
    exec .stepTimeout s = .next (raiseFault .timeout s) :=
  whenEnabled_of (by simp [htmo, hw]) _ s

theorem exec_stepTimeout_rests {s : State} (h : ¬ (s.cfg.tmoEn = true ∧ engineWaiting s = true)) :
    exec .stepTimeout s = .next s := by
  rw [← Bool.and_eq_true, Bool.not_eq_true] at h
  simp [exec, execStepTimeout, h]

/-- Settles O44: the statement's guard is that of the row. -/
theorem timeoutStep : Obligations.TimeoutStep := by
  refine fun s => ⟨fun htmo hw => ?fires, fun h => ?rests⟩
  case fires => exact exec_stepTimeout_fires htmo ((engineWaiting_iff s).mpr hw)
  case rests => exact exec_stepTimeout_rests (by rwa [engineWaiting_iff])

/-- A waiting engine has no enabled step. -/
theorem engineNext_of_waiting {s : State} (hw : engineWaiting s = true) : engineNext s = none := by
  obtain ⟨hq, hst | hst | ⟨hst, hbc⟩⟩ := (engineWaiting_iff s).mp hw
  · exact engineNext_of_await_empty (.inl hst) hq
  · exact engineNext_of_await_empty (.inr hst) hq
  · have hne : s.bc ≠ 0#9 := fun h => by simp [h] at hbc
    obtain hst | hst := hst
    · rw [engineNext_of_drainPre_empty hst hq, if_neg hne]
    · rw [engineNext_of_drainPost_empty hst hq, if_neg hne]

/-- A machine whose step leaves it as it is stays as it is for ever. -/
theorem steps_of_step_self {s : State} (h : step s = .next s) (n : Nat) : steps n s = .next s := by
  induction n with
  | zero => rfl
  | succ n ih => rw [steps_succ n h, ih]

theorem busy_of_popsBytes {x : St} (h : popsBytes x) : x.busy = true := by
  obtain rfl | rfl | rfl | rfl := h <;> rfl

/-- Bit 0 of `STATUS` is `BUSY` (R33, R44). -/
theorem statusWord_and_one {s : State} (h : s.st.busy = true) : statusWord s &&& 1#32 = 1#32 := by
  obtain ⟨hbusy, -⟩ := statusWord_flags s
  have hbit : (statusWord s).getLsbD 0 = true := hbusy.trans h
  rw [BitVec.and_one_eq_setWidth_ofBool_getLsbD, hbit]
  rfl

theorem commandStart_of_busy {s : State} (h : s.st.busy = true) : commandStart s = s := by
  obtain ⟨hst, -⟩ | ⟨-, e⟩ := commandStart_cases s
  · simp [hst, St.busy] at h
  · exact e

theorem commandClr_of_busy {s : State} (h : s.st.busy = true) : commandClr s = s := by
  obtain ⟨hst, -⟩ | ⟨hst, -⟩ | ⟨-, e⟩ := commandClr_cases s
  · obtain hst | hst | hst := (St.terminal_iff _).mp hst <;> simp [hst, St.busy] at h
  · simp [hst, St.busy] at h
  · exact e

/-- Settles O59: a waiting engine has no step and is busy; the rest are the rows of the timeout, of reset and of the host on a
busy engine. -/
theorem waitingNeverEnds : Obligations.WaitingNeverEnds := by
  intro s n hw hp
  have hbusy : s.st.busy = true := busy_of_popsBytes (popsBytes_of_waiting hw)
  refine ⟨steps_of_step_self (step_waits hp (engineNext_of_waiting hw)) n, hbusy, ?status, fun htmo => ?disabled,
    fun htmo => ?fires, ⟨_, rfl, rfl⟩, fun v rsv => ⟨?start, ?clr, ?seq, ?cnt, ?desc⟩⟩
  case status => exact statusWord_and_one hbusy
  case disabled => exact exec_stepTimeout_rests (by simp [htmo])
  case fires => exact exec_stepTimeout_fires htmo hw
  case start => exact congrArg Host.Outcome.next (commandStart_of_busy hbusy)
  case clr => exact congrArg Host.Outcome.next (commandClr_of_busy hbusy)
  all_goals exact congrArg Host.Outcome.next (writeUnlessBusy_of_busy _ hbusy)

end Sys2Proof.Machine
end

section
/-! The engine's pops, each as the statement of its rule: the byte goes to `FB[BC]`, the checks read the frame with that byte in
its place, and the outcome is written out (R212, R215, R217, R220, R221). -/

namespace Sys2Proof.Machine

/-! ### The rows -/

/-- A pop whose guard holds stores its byte and goes on (R32). -/
theorem guardedPop_of_cons {g : Bool} (hg : g = true) (f : Byte → State → State) {s : State} {b : Byte} {q : List Byte}
    (hq : s.rxq = b :: q) (hbc : s.bc.toNat < 265) :
    whenEnabled g (enginePop f s) s = .next (f b (popped b q s)) := by
  rw [whenEnabled_of hg, enginePop_of_cons f hq hbc]

section Rows

variable {s : State} {b : Byte} {q : List Byte}

theorem exec_stepDrainPop (hg : draining s = true) (hq : s.rxq = b :: q) (hbc : s.bc.toNat < 265) :
    exec .stepDrainPop s = .next (drainAfterStore b (popped b q s)) :=
  guardedPop_of_cons hg _ hq hbc

theorem exec_stepAckPop (hst : s.st = .awaitAck) (hq : s.rxq = b :: q) (hbc : s.bc.toNat < 9) :
    exec .stepAckPop s = .next (countPop (popped b q s)) :=
  guardedPop_of_cons (by simp [hst, hbc]) (fun _ t => countPop t) hq (by omega)

theorem exec_stepAckOutcome (hst : s.st = .awaitAck) (hq : s.rxq = b :: q) (hbc : s.bc = 9#9) :
    exec .stepAckOutcome s = .next (ackOutcome (countPop (popped b q s))) :=
  guardedPop_of_cons (by simp [hst, hbc]) (fun _ t => ackOutcome (countPop t)) hq (by simp [hbc])

theorem exec_stepRspPop (hacc : accumulatingResponse s = true) (hlast : lastOfResponse s = false) (hq : s.rxq = b :: q)
    (hbc : s.bc.toNat < 265) :
    exec .stepRspPop s =
      .next (if s.bc = 7#9 then rspHeaderCheck (countPop (popped b q s)) else countPop (popped b q s)) :=
  guardedPop_of_cons (by simp [hacc, hlast]) (fun _ t => if t.bc = 7#9 then rspHeaderCheck (countPop t) else countPop t)
    hq hbc

theorem exec_stepRspBody (hacc : accumulatingResponse s = true) (hlast : lastOfResponse s = true) (hq : s.rxq = b :: q)
    (hbc : s.bc.toNat < 265) : exec .stepRspBody s = .next (rspBody (countPop (popped b q s))) :=
  guardedPop_of_cons (by simp [hacc, hlast]) (fun _ t => rspBody (countPop t)) hq hbc

end Rows

/-- The state of a pop with its byte counted. -/
theorem countPop_popped (b : Byte) (q : List Byte) {s : State} {n : BitVec 9} (hn : s.bc + 1#9 = n) :
    countPop (popped b q s) = { s with rxq := q, fb := Memory.write s.fb s.bc.toNat b, bc := n } := by
  rw [← hn]
  rfl

theorem add_one_eq_ofNat (n : BitVec 9) : n + 1#9 = BitVec.ofNat 9 (n.toNat + 1) := by
  rw [BitVec.ofNat_add, BitVec.ofNat_toNat, BitVec.setWidth_eq]

theorem fbByte_popped_eq (b : Byte) (q : List Byte) (s : State) : fbByte (popped b q s) = frameWith b s :=
  fbByte_stored s _ b rfl

/-! ### The drain pop (R212) -/

/-- What the third byte of a drained frame does, given the shape that it completes. -/
def drainClassified (t : State) : Option Shape → State
  | some x => { t with bc := 3#9, tl := shapeTarget x }
  | none => raiseFault .protocolDesync { t with bc := 3#9 }

theorem drainAfterStore_classifies {t : State} (b : Byte) (hbc : t.bc = 2#9) :
    drainAfterStore b t = drainClassified t (classifyShape (fbByte t 0) (fbByte t 1) b) := by
  cases hx : classifyShape (fbByte t 0) (fbByte t 1) b with
  | some x => exact drainAfterStore_third hbc hx
  | none =>
    rw [drainAfterStore, hbc, hx]
    rfl

theorem classifyShape_eq_rsp_iff (b0 b1 b2 : Byte) :
    classifyShape b0 b1 b2 = some .rsp ↔ b0 = 0xAA#8 ∧ b1 = 0x55#8 ∧ b2 = 0x80#8 := by
  unfold classifyShape
  split_ifs with hack hrsp hctl
  · simp [hack, Config.typeAck]
  · exact iff_of_true rfl hrsp
  · exact iff_of_false (by simp) hrsp
  · exact iff_of_false (by simp) hrsp

/-- Settles O39: the third byte classifies, the fourth of a response sets the length, and any byte may end the frame. -/
theorem drainPop : Obligations.DrainPop := by
  intro s b q hst hq hbc
  refine ⟨_, storesAtCounter_write b s, ?_⟩
  intro n f s1
  rw [exec_stepDrainPop ((draining_iff s).mpr hst) hq hbc]
  refine congrArg Host.Outcome.next ?_
  have hn (m : BitVec 9) : (popped b q s).bc + 1#9 = m ↔ n = m.toNat := by
    rw [← BitVec.toNat_inj]
    exact iff_of_eq (congrArg (· = m.toNat) (toNat_add_one (n := s.bc) (by omega)))
  by_cases h3 : n = 3
  · have h2 : (popped b q s).bc = 2#9 := BitVec.eq_of_toNat_eq (Nat.succ.inj h3)
    rw [if_pos h3, drainAfterStore_classifies b h2, fbByte_popped_eq]
    simp only [classifyShape, apply_ite (drainClassified _)]
    rfl
  · have htarget : drainTarget b (popped b q s) =
        if n = 4 ∧ f 0 = 0xAA#8 ∧ f 1 = 0x55#8 ∧ f 2 = 0x80#8 then frameLength b else s.tl := by
      rw [drainTarget, fbByte_popped_eq]
      simp only [hn, classifyShape_eq_rsp_iff]
      rfl
    rw [if_neg h3, drainAfterStore_other b ((hn _).not.mpr h3), htarget]
    split
    · next h4 =>
      have hlong : n ≠ (frameLength b).toNat := by
        have := (ten_le_frameLength b).1
        omega
      rw [if_neg fun h => hlong ((hn _).mp h.2), (hn 4#9).mpr h4.1]
      rfl
    · have hcount : (popped b q s).bc + 1#9 = BitVec.ofNat 9 n := (hn _).mpr (by simp; omega)
      refine if_congr (and_congr_right' (hn s.tl)) rfl ?_
      rw [hcount]
      rfl

/-! ### The acknowledgement (R215, R217) -/

/-- Fault entry records the state that detects the fault (R324). -/
theorem raiseFault_of_st (k : FatalKind) {t : State} {x : St} (h : t.st = x) :
    raiseFault k t = { t with st := .faulted, err := some ⟨.fatal k, x⟩ } := by
  rw [raiseFault, h]

theorem needsRetryOf_iff (type : Byte) : needsRetryOf type = true ↔ type = 0x04#8 := beq_iff_eq

theorem needsRetryOf_eq_false_iff (type : Byte) : needsRetryOf type = false ↔ type ≠ 0x04#8 := beq_eq_false_iff_ne

/-- Settles O42: the first nine bytes are counted, and the tenth runs the outcome on the frame that it completes. -/
theorem acknowledgementSteps : Obligations.AcknowledgementSteps := by
  refine ⟨fun s b q hst hq hbc => ⟨_, storesAtCounter_write b s, ?counts⟩,
    fun s b q hst hq hbc => ⟨_, storesAtCounter_write b s, ?outcome⟩⟩
  case counts => rw [exec_stepAckPop hst hq hbc, countPop_popped b q (add_one_eq_ofNat s.bc)]
  case outcome =>
    intro s1
    have hs1 : countPop (popped b q s) = s1 := countPop_popped b q (by rw [hbc]; rfl)
    rw [exec_stepAckOutcome hst hq hbc, hs1, ← fbByte_stored s s1 b rfl]
    obtain ⟨k, hp, e⟩ | ⟨r, hp, ⟨hn, e⟩ | ⟨hn, hr, e⟩ | ⟨hn, hr, e⟩⟩ := ackOutcome_cases s1 <;> rw [e, hp]
    · exact congrArg Host.Outcome.next (raiseFault_of_st k hst)
    · exact congrArg Host.Outcome.next (if_pos ((needsRetryOf_eq_false_iff _).mp hn)).symm
    · have htype := (needsRetryOf_iff _).mp hn
      exact congrArg Host.Outcome.next ((if_neg (not_not.mpr htype)).trans (if_pos hr)).symm
    · have htype := (needsRetryOf_iff _).mp hn
      have hretry : ¬ s.retry = false := (Bool.not_eq_false _).mpr hr
      exact congrArg Host.Outcome.next ((if_neg (not_not.mpr htype)).trans (if_neg hretry)).symm

/-! ### The response (R220, R221) -/

/-- The raw payload of an accepted response is as long as `PLEN` says (R166, R221). -/
theorem payload_length_of_accepted {f : Nat → Byte} {tc iid cid : Byte} {cnt : Half} {r : BodyFields}
    (h : parseResponseBody f tc iid cid cnt = .ok r) : r.payload.length = (f 3 - 8#8).toNat := by
  obtain ⟨hn, -, -, rfl⟩ := parseResponseBody_ok h
  rw [slice_length]
  bv_omega

/-- Settles O43: a byte before the last is counted, the eighth with the header check, and the last one runs the body check on
the frame that it completes. -/
theorem responseSteps : Obligations.ResponseSteps := by
  refine ⟨fun s b q hst hq hbc => ⟨_, storesAtCounter_write b s, ?counts⟩,
    fun s b q hst hq hmin hlast hmax => ⟨_, storesAtCounter_write b s, ?body⟩⟩
  case counts =>
    intro s1
    have hacc : accumulatingResponse s = true :=
      (accumulatingResponse_iff s).mpr ⟨hst, hbc.imp_right fun h => ⟨fun h0 => by simp [h0] at h, by omega⟩⟩
    have hlast : lastOfResponse s = false := by
      rw [← Bool.not_eq_true, lastOfResponse_iff]
      omega
    rw [exec_stepRspPop hacc hlast hq (by omega), countPop_popped b q (add_one_eq_ofNat s.bc),
      ← fbByte_stored s s1 b rfl]
    refine congrArg Host.Outcome.next (if_congr Iff.rfl ?_ rfl)
    change rspHeaderCheck s1 = _
    obtain ⟨k, hp, e⟩ | ⟨n, hp, e⟩ := rspHeaderCheck_cases s1 <;> rw [e, hp]
    · exact raiseFault_of_st k hst
    · rfl
  case body =>
    intro s1
    have hacc : accumulatingResponse s = true :=
      (accumulatingResponse_iff s).mpr ⟨hst, .inr ⟨fun h0 => by simp [h0] at hlast, by omega⟩⟩
    have hs1 : countPop (popped b q s) = s1 :=
      countPop_popped b q (by rw [add_one_eq_ofNat, hlast, BitVec.ofNat_toNat, BitVec.setWidth_eq])
    rw [exec_stepRspBody hacc ((lastOfResponse_iff s).mpr ⟨hmin, hlast⟩) hq (by omega), hs1,
      ← fbByte_stored s s1 b rfl]
    obtain ⟨k, hp, e⟩ | ⟨r, hp, e⟩ := rspBody_cases s1 <;> rw [e, hp]
    · exact congrArg Host.Outcome.next (raiseFault_of_st k hst)
    · refine ⟨_, rfl, payload_length_of_accepted hp, fun a => ?_⟩
      rw [Memory.read_ofBytes, if_pos (Nat.zero_le a), Nat.sub_zero]

end Sys2Proof.Machine
end

section
/-! The state graph (R210): which edge each agent's move takes. -/

namespace Sys2Proof.Machine

/-! ### The engine -/

theorem drainAfterStore_st (b : Byte) (s : State) :
    (drainAfterStore b s).st = s.st ∨ (drainAfterStore b s).st = .faulted := by
  obtain ⟨-, -, e⟩ | ⟨-, x, -, e⟩ | ⟨-, l, -, e⟩ := drainAfterStore_cases b s <;> rw [e]
  · exact .inr rfl
  · exact .inl rfl
  · exact .inl (by split <;> rfl)

theorem ackOutcome_st (s : State) :
    (ackOutcome s).st = .faulted ∨ (ackOutcome s).st = .awaitRsp ∨ (ackOutcome s).st = .retrying ∨
      (ackOutcome s).st = .aborted := by
  obtain ⟨k, -, e⟩ | ⟨r, -, ⟨-, e⟩ | ⟨-, -, e⟩ | ⟨-, -, e⟩⟩ := ackOutcome_cases s <;> simp [e]

theorem rspHeaderCheck_st (s : State) : (rspHeaderCheck s).st = s.st ∨ (rspHeaderCheck s).st = .faulted := by
  obtain ⟨k, -, e⟩ | ⟨n, -, e⟩ := rspHeaderCheck_cases s <;> simp [e]

theorem rspBody_st (s : State) : (rspBody s).st = .rspAcked ∨ (rspBody s).st = .faulted := by
  obtain ⟨k, -, e⟩ | ⟨r, -, e⟩ := rspBody_cases s <;> simp [e]

/-- The edges along which a pop keeps the state or enters the fault. -/
theorem engineEdge_of_popsBytes {x y : St} (hx : popsBytes x) (hy : y = x ∨ y = .faulted) : engineEdge x y = true := by
  obtain rfl | rfl | rfl | rfl := hx <;> obtain rfl | rfl := hy <;> rfl

/-- Every move of the engine follows an edge of its own. -/
theorem EngineMove.edge {i : Instr} {s t : State} (hm : EngineMove i s t) : engineEdge s.st t.st = true ∨ t = s := by
  cases hm with
  | rests => exact .inr rfl
  | drainPop hg hq => exact .inl (engineEdge_of_popsBytes (popsBytes_of_draining hg) (drainAfterStore_st _ _))
  | ackPop hst => exact .inl (engineEdge_of_popsBytes (.inr (.inl hst)) (.inl rfl))
  | rspPop hg => exact .inl (engineEdge_of_popsBytes (.inr (.inr (.inl (awaitRsp_of_accumulating hg)))) (.inl rfl))
  | rspHeader hg =>
    exact .inl (engineEdge_of_popsBytes (.inr (.inr (.inl (awaitRsp_of_accumulating hg)))) (rspHeaderCheck_st _))
  | @ackOutcome _ b q hst =>
    obtain e | e | e | e := ackOutcome_st (countPop (popped b q s)) <;> exact .inl (by rw [hst, e]; rfl)
  | @rspBody _ b q hg =>
    obtain e | e := rspBody_st (countPop (popped b q s)) <;>
      exact .inl (by rw [awaitRsp_of_accumulating hg, e]; rfl)
  | drainPreDone hst | sendRequest hst | retransmit hst | sendAck hst | drainPostDone hst =>
    exact .inl (by rw [hst]; rfl)

/-! ### The host -/

@[simp] theorem commandIf_hcrcInit_st (b : Bool) (s : State) : (commandIf b commandHcrcInit s).st = s.st := by
  cases b <;> rfl

theorem commandStart_st_of_idle {s : State} (h : s.st = .idle) : (commandStart s).st = .drainPre := by
  simp [commandStart, h]

theorem commandStart_st_of_not_idle {s : State} (h : s.st ≠ .idle) : (commandStart s).st = s.st := by
  simp [commandStart, h]

theorem commandClr_st (s : State) :
    (s.st.terminal = true ∧ (commandClr s).st = .idle) ∨ (commandClr s).st = s.st := by
  obtain ⟨hst, e⟩ | ⟨-, e⟩ | ⟨-, e⟩ := commandClr_cases s <;> rw [e]
  exacts [.inl ⟨hst, rfl⟩, .inr rfl, .inr rfl]

/-- A move of the host keeps the state, or is one of the two commands, or both in one write. -/
theorem HostMove.edge {i : Instr} {s t : State} (hm : HostMove i s t) :
    t.st = s.st ∨
      (s.st = .idle ∧ t.st = .drainPre ∧ ∃ clr init rsv, i = .start clr init rsv) ∨
      (s.st.terminal = true ∧ t.st = .idle ∧ ∃ init rsv, i = .clr init rsv) ∨
      (s.st.terminal = true ∧ t.st = .drainPre ∧ ∃ init rsv, i = .start true init rsv) := by
  cases hm with
  | clr init rsv =>
    rw [commandIf_hcrcInit_st]
    obtain ⟨hs, ht⟩ | ht := commandClr_st s
    exacts [.inr (.inr (.inl ⟨hs, ht, init, rsv, rfl⟩)), .inl ht]
  | start clr init rsv =>
    have keeps {u : State} (hu : u.st = s.st) :
        (commandStart u).st = s.st ∨ (s.st = .idle ∧ (commandStart u).st = .drainPre ∧
          ∃ clr' init' rsv', Instr.start clr init rsv = .start clr' init' rsv') := by
      by_cases h : u.st = .idle
      exacts [.inr ⟨hu ▸ h, commandStart_st_of_idle h, clr, init, rsv, rfl⟩,
        .inl ((commandStart_st_of_not_idle h).trans hu)]
    cases clr with
    | false => exact (keeps (commandIf_hcrcInit_st init s)).imp_right .inl
    | true =>
      obtain ⟨hs, hu⟩ | hu := commandClr_st s
      · exact .inr (.inr (.inr ⟨hs, commandStart_st_of_idle ((commandIf_hcrcInit_st init _).trans hu), init, rsv, rfl⟩))
      · exact (keeps ((commandIf_hcrcInit_st init _).trans hu)).imp_right .inl
  | _ => exact .inl rfl

/-- Settles O53, agent by agent. -/
theorem stateFollowsTheGraph : Obligations.StateFollowsTheGraph := by
  intro i s t h
  cases ha : agentOf i with
  | none => trivial
  | some a =>
    cases a with
    | engine => exact (engineMove_of_exec ha h).edge
    | timeout =>
      obtain rfl := eq_stepTimeout_of_agent ha
      obtain rfl | ⟨hw, rfl⟩ := stepTimeout_next h
      exacts [.inr rfl, .inl ⟨popsBytes_of_waiting hw, rfl⟩]
    | host =>
      obtain ⟨u, hu, hm⟩ := exec_host ha s
      cases hu.symm.trans h
      exact hm.edge
    | resetInput =>
      obtain rfl := eq_reset_of_agent ha
      cases h
      rfl
    | peer =>
      obtain ⟨bytes, hb⟩ := exec_peer ha
      cases (hb s).symm.trans h
      rw [rxArriveAll_frame]
    | transmitter =>
      obtain rfl := eq_txConsume_of_agent ha
      cases h
      exact txConsume_st s

end Sys2Proof.Machine
end

section
/-! The retry policy (R217 to R219): what a whole acknowledgement does, and the two runs of the policy. -/

namespace Sys2Proof.Machine

/-! ### A whole acknowledgement -/

section Acknowledgement

variable {s : State} (hp : s.pending = []) (hst : s.st = .awaitAck)
include hp hst

theorem step_receiving_ackPop (l : BitVec 9) {k : Nat} (hk : k < 9) (fb : Memory) (b : Byte) (q : List Byte) :
    step (receiving s l k fb (b :: q)) = .next (receiving s l (k + 1) (Memory.write fb k b) q) := by
  have hbc : (receiving s l k fb (b :: q)).bc.toNat < 9 := by rwa [receiving_bc_toNat s l fb _ (by omega)]
  have hnext : engineNext (receiving s l k fb (b :: q)) = some .stepAckPop :=
    engineNext_of_enabled ⟨⟨hst, hbc⟩, List.cons_ne_nil b q⟩
  rw [step_engine (s := receiving s l k fb (b :: q)) hp hnext,
    exec_stepAckPop (s := receiving s l k fb (b :: q)) hst rfl hbc, popped_receiving s l fb q (by omega), countPop_receiving]

theorem step_receiving_ackOutcome (l : BitVec 9) (fb : Memory) (b : Byte) (q : List Byte) :
    step (receiving s l 9 fb (b :: q)) = .next (ackOutcome (receiving s l 10 (Memory.write fb 9 b) q)) := by
  have hnext : engineNext (receiving s l 9 fb (b :: q)) = some .stepAckOutcome :=
    engineNext_of_enabled ⟨⟨hst, rfl⟩, List.cons_ne_nil b q⟩
  rw [step_engine (s := receiving s l 9 fb (b :: q)) hp hnext,
    exec_stepAckOutcome (s := receiving s l 9 fb (b :: q)) hst rfl rfl, popped_receiving s l fb q (by omega),
    countPop_receiving]

end Acknowledgement

theorem ackShape_length (t q : Byte) : (ackShape t q).length = 10 := rfl

/-- `s` with the ten bytes of an acknowledgement received, and `r` still to come. -/
def ackReceived (s : State) (fb : Memory) (t q : Byte) (r : List Byte) : State :=
  receiving s 10#9 10 (Memory.writeRange fb 0 (ackShape t q)) r

/-- An acknowledgement takes ten steps, the last of which brings the outcome (R215, R217). -/
theorem steps_ack {s : State} (hp : s.pending = []) (hst : s.st = .awaitAck) (fb : Memory) (t q : Byte) (r : List Byte) :
    steps 10 (receiving s 10#9 0 fb (ackShape t q ++ r)) = .next (ackOutcome (ackReceived s fb t q r)) := by
  refine steps_receiving_last (s := s) (l := 10#9) (k := 0) (n := 10) (bytes := ackShape t q)
    (g := fun m r => ackOutcome (receiving s 10#9 10 m r)) (by omega) (by rw [ackShape_length])
    (fun i _ hi m b r => step_receiving_ackPop hp hst 10#9 (by omega) m b r) (fun i hi m b r => ?last) fb r
  case last =>
    obtain rfl : i = 9 := by omega
    exact step_receiving_ackOutcome hp hst 10#9 m b r

section Outcome

variable {s : State} (fb : Memory) {t q : Byte} (r : List Byte)

/-- A whole acknowledgement is accepted, a plain one if its sequence number is the engine's (R162). -/
theorem parseAck_ackReceived (hseq : t = 0x40#8 → q = s.seq) :
    parseAck (fbByte (ackReceived s fb t q r)) (ackReceived s fb t q r).seq = .ok ⟨t, q⟩ :=
  parseAck_of_ackShape (slice_of_fbHolds (fbHolds_of_writeRange (receiving_fb ..))) hseq

theorem ackOutcome_succeeds (hseq : t = 0x40#8 → q = s.seq) (ht : t ≠ 0x04#8) :
    ackOutcome (ackReceived s fb t q r) =
      { ackReceived s fb t q r with needsRetry := false, st := .awaitRsp, bc := 0#9, tl := 0#9 } := by
  have hn := (needsRetryOf_eq_false_iff _).mpr ht
  simp [ackOutcome, parseAck_ackReceived fb r hseq, hn]

theorem parseAck_nakReceived :
    parseAck (fbByte (ackReceived s fb 0x04#8 q r)) (ackReceived s fb 0x04#8 q r).seq = .ok ⟨0x04#8, q⟩ :=
  parseAck_ackReceived fb r fun h => absurd h (by decide)

theorem ackOutcome_retries (hr : s.retry = false) :
    ackOutcome (ackReceived s fb 0x04#8 q r) =
      { ackReceived s fb 0x04#8 q r with needsRetry := true, st := .retrying } := by
  have hretry : (ackReceived s fb 0x04#8 q r).retry = false := hr
  simp [ackOutcome, parseAck_nakReceived, (needsRetryOf_iff 0x04#8).mpr, hretry]

theorem ackOutcome_aborts (hr : s.retry = true) :
    ackOutcome (ackReceived s fb 0x04#8 q r) =
      { ackReceived s fb 0x04#8 q r with
        needsRetry := true, st := .aborted, err := some ⟨.ackRetryExhausted, .awaitAck⟩ } := by
  have hretry : (ackReceived s fb 0x04#8 q r).retry = true := hr
  simp [ackOutcome, parseAck_nakReceived, (needsRetryOf_iff 0x04#8).mpr, hretry, abortEntry]

end Outcome

/-! ### The two runs -/

theorem step_sendRequest {s : State} (hp : s.pending = []) (hst : s.st = .requestSent) : step s = .next (sendRequest s) := by
  rw [step_engine hp (engineNext_of_requestSent hst), exec_stepSendRequest hst]

theorem step_retransmit {s : State} (hp : s.pending = []) (hst : s.st = .retrying) :
    step s = .next { sendRequest s with retry := true, retried := true } := by
  rw [step_engine hp (engineNext_of_retrying hst), exec_stepRetransmit hst]

/-- The state in which the second acknowledgement of an exchange is awaited, `fb` and `q` being what the first one left. -/
def awaitingSecondAck (s : State) (fb : Memory) (q : List Byte) : State :=
  let request := encodeRequest s.desc.tc s.desc.iid s.desc.cid s.seq s.cnt
  { s with
    st := .awaitAck, bc := 0#9, tl := 10#9, retry := true, retried := true, needsRetry := true, fb := fb, rxq := q,
    txq := s.txq ++ request ++ request }

/-- The request, a failing acknowledgement, and the one retransmission (R214, R217, R218). -/
theorem steps_failingAck {s : State} (hp : s.pending = []) (hst : s.st = .requestSent) (hr : s.retry = false) {q1 : Byte}
    {q : List Byte} (hq : s.rxq = ackShape 0x04#8 q1 ++ q) :
    steps 12 s = .next (awaitingSecondAck s (Memory.writeRange s.fb 0 (ackShape 0x04#8 q1)) q) := by
  have hsend : steps 1 s = .next (receiving (sendRequest s) 10#9 0 s.fb s.rxq) := steps_succ 0 (step_sendRequest hp hst)
  have hack := steps_ack (s := sendRequest s) hp rfl s.fb 0x04#8 q1 q
  rw [← hq, ackOutcome_retries (s := sendRequest s) _ _ hr] at hack
  exact (steps_add 11 hsend).trans ((steps_add 1 hack).trans (steps_succ 0 (step_retransmit hp rfl)))

/-- The second acknowledgement, up to its outcome (R215). -/
theorem steps_secondAck {s : State} (hp : s.pending = []) (fb : Memory) (t q : Byte) :
    steps 10 (awaitingSecondAck s fb (ackShape t q)) =
      .next (ackOutcome (ackReceived (awaitingSecondAck s fb (ackShape t q)) fb t q [])) := by
  have hack := steps_ack (s := awaitingSecondAck s fb (ackShape t q)) hp rfl fb t q []
  rwa [List.append_nil] at hack

/-- Two acknowledgements leave `FB` beyond their ten bytes as it was. -/
theorem read_twoAcks (m : Memory) (t1 q1 t2 q2 : Byte) {k : Nat} (hk : 10 ≤ k) :
    Memory.read (Memory.writeRange (Memory.writeRange m 0 (ackShape t1 q1)) 0 (ackShape t2 q2)) k = Memory.read m k := by
  rw [Memory.read_writeRange_outside _ _ _ (.inr (by rwa [ackShape_length])),
    Memory.read_writeRange_outside _ _ _ (.inr (by rwa [ackShape_length]))]

/-- Settles O57: after the one retransmission the second acknowledgement ends the wait for it or the exchange. -/
theorem retryPolicy : Obligations.RetryPolicy := by
  refine fun s q1 q2 t2 hst hr hp => ⟨fun ht hseq hq => ?succeeds, fun hq => ?aborts⟩
  case succeeds =>
    refine ⟨_, fun k => read_twoAcks s.fb 0x04#8 q1 t2 q2, (steps_add 10 (steps_failingAck hp hst hr hq)).trans ?_⟩
    rw [steps_secondAck hp, ackOutcome_succeeds (s := awaitingSecondAck s _ _) _ _ hseq ht]
    simp only [ackReceived, receiving, awaitingSecondAck]
  case aborts =>
    refine ⟨_, fun k => read_twoAcks s.fb 0x04#8 q1 0x04#8 q2, (steps_add 10 (steps_failingAck hp hst hr hq)).trans ?_⟩
    rw [steps_secondAck hp, ackOutcome_aborts _ _ rfl]
    simp only [ackReceived, receiving, awaitingSecondAck]

end Sys2Proof.Machine
end

section
/-! The layout tables (R260 to R271): every entry of every table fits the payload buffer, and what a table requires of a
payload's length. -/

namespace Sys2Proof.Machine

/-! ### Entries (R261) -/

theorem entryFits_iff (o w : Byte) (enc : Bool) :
    entryFits o w enc = true ↔
      1 ≤ w.toNat ∧ o.toNat + w.toNat ≤ 247 ∧ (enc = false → w.toNat ≤ 8) := by
  simp only [entryFits, Bool.and_eq_true, Bool.or_eq_true, decide_eq_true_eq, and_assoc]
  cases enc <;> simp [Config.pbufSize, Config.fieldIntMax]

/-- The shaping of raw numbers gives a well-formed entry, whatever the numbers (log entry 12). -/
theorem entryFits_openEntry (k : BitVec 3) (j o w : Nat) (enc : Bool) :
    entryFits (openEntry k j o w enc).offset (openEntry k j o w enc).width enc = true := by
  obtain ⟨m, hm, hpos, hmax, hint⟩ : ∃ m, (if enc then Config.pbufSize else Config.fieldIntMax) = m ∧ 0 < m ∧ m ≤ 247 ∧
      (enc = false → m = 8) := by cases enc <;> exact ⟨_, rfl, by decide⟩
  have hwidth := Nat.mod_lt w hpos
  have hoffset := Nat.mod_lt o (show 0 < 247 - (w % m + 1) + 1 by omega)
  simp only [entryFits_iff, openEntry, hm]
  simp only [Config.pbufSize, BitVec.toNat_ofNat]
  rw [Nat.mod_eq_of_lt (show w % m + 1 < 2 ^ 8 by omega),
    Nat.mod_eq_of_lt (show o % (247 - (w % m + 1) + 1) < 2 ^ 8 by omega)]
  exact ⟨by omega, by omega, fun henc => by have := hint henc; omega⟩

/-! ### The tables (R260, R266 to R271) -/

/-- What holds of the five tables and of the empty one holds of the table of every kind. -/
theorem layout_induction {P : List Entry → Prop} (base : P layoutBaseStatus) (source : P layoutPowerSource)
    (status : P layoutBatteryStatus) (dynamic : P layoutBatteryDynamic) (static : P layoutBatteryStatic) (none : P [])
    (k : BitVec 3) : P (layout k) := by
  unfold layout
  split_ifs
  exacts [base, source, status, dynamic, static, none]

@[simp] theorem layoutBatteryStatic_length : layoutBatteryStatic.length = 20 := by simp [layoutBatteryStatic]

theorem layout_length_le (k : BitVec 3) : (layout k).length ≤ 32 :=
  layout_induction (P := fun table => table.length ≤ 32) (by decide) (by decide) (by decide) (by decide) (by simp)
    (by decide) k

theorem layout_names_nodup (k : BitVec 3) : ((layout k).map Entry.name).Nodup := by
  refine layout_induction (P := fun table => (table.map Entry.name).Nodup) (by decide) (List.nodup_singleton _)
    (List.nodup_singleton _) (by decide) ?static List.nodup_nil k
  case static =>
    rw [layoutBatteryStatic, List.map_map]
    exact List.nodup_range.map fun i j h => (FieldName.unspelled.inj h).2

theorem entryFits_of_mem_layout (k : BitVec 3) : ∀ e ∈ layout k, entryFits e.offset e.width e.isString = true := by
  refine layout_induction (P := fun table => ∀ e ∈ table, entryFits e.offset e.width e.isString = true)
    (by decide) ?source ?status (by decide) ?static (by simp) k
  case source => exact List.forall_mem_singleton.mpr (entryFits_openEntry ..)
  case status => exact List.forall_mem_singleton.mpr (entryFits_openEntry ..)
  case static => exact List.forall_mem_map.mpr fun j _ => entryFits_openEntry ..

/-- Settles O33: the tables by the shaping of their entries, and a refused row is one whose entry does not fit. -/
theorem layoutTablesWellFormed : Obligations.LayoutTablesWellFormed := by
  refine ⟨fun k => ⟨layout_length_le k, layout_names_nodup k, fun e he => ?entry⟩, fun o w s h => ?uint, fun o w s h => ?string⟩
  case entry => exact (entryFits_iff ..).mp (entryFits_of_mem_layout k e he)
  case uint =>
    refine if_neg fun hfits => ?_
    obtain ⟨hpos, hend, hwidth⟩ := (entryFits_iff ..).mp hfits
    have := hwidth rfl
    obtain rfl | _ | _ := h
    exacts [absurd hpos (by decide), by omega, by omega]
  case string =>
    refine if_neg fun hfits => ?_
    obtain ⟨hpos, hend, -⟩ := (entryFits_iff ..).mp hfits
    obtain rfl | _ := h
    exacts [absurd hpos (by decide), by omega]

/-! ### The required length (R262) -/

@[simp] theorem reqOf_nil : reqOf [] = 0 := rfl

@[simp] theorem reqOf_cons (e : Entry) (table : List Entry) : reqOf (e :: table) = max (entryEnd e) (reqOf table) := rfl

theorem entryEnd_le_reqOf {table : List Entry} {e : Entry} (h : e ∈ table) : entryEnd e ≤ reqOf table := by
  induction table with
  | nil => cases h
  | cons d table ih =>
    obtain rfl | h := List.mem_cons.mp h
    exacts [le_max_left .., (ih h).trans (le_max_right ..)]

theorem exists_entryEnd_eq_reqOf {table : List Entry} (h : table ≠ []) : ∃ e ∈ table, entryEnd e = reqOf table := by
  induction table with
  | nil => exact absurd rfl h
  | cons d table ih =>
    by_cases hd : reqOf table ≤ entryEnd d
    · exact ⟨d, List.mem_cons_self, (max_eq_left hd).symm⟩
    · obtain ⟨e, he, hend⟩ := ih fun hnil => hd (by simp [hnil])
      exact ⟨e, List.mem_cons_of_mem d he, by rw [hend, reqOf_cons, max_eq_right (by omega)]⟩

theorem req_le (k : BitVec 3) : req k ≤ 247 := by
  by_cases h : layout k = []
  · simp [req, h]
  · obtain ⟨e, he, hend⟩ := exists_entryEnd_eq_reqOf h
    obtain ⟨-, hle, -⟩ := (entryFits_iff ..).mp (entryFits_of_mem_layout k e he)
    rw [req, ← hend]
    exact hle

/-- Settles O34: the required length fits the nine bits of the result, being the end of an entry of the table. -/
theorem requiredLength : Obligations.RequiredLength := by
  intro k s
  have hreq : (BitVec.ofNat 9 (req k)).toNat = req k := by
    rw [BitVec.toNat_ofNat, Nat.mod_eq_of_lt]
    have := req_le k
    omega
  refine ⟨BitVec.ofNat 9 (req k), rfl, ?_⟩
  rw [hreq]
  exact ⟨rfl, fun e he => entryEnd_le_reqOf he, fun hnil => by simp [req, hnil], exists_entryEnd_eq_reqOf⟩

end Sys2Proof.Machine
end

section
/-! The decoder's values and its read ports (R263 to R265, R277): what the three words of a field hold, for the generic rows, the
known rows and the read ports alike. -/

namespace Sys2Proof.Machine

/-! ### Unsigned integers (R264) -/

theorem uintValue_eq_sum (f : Nat → Byte) (o w : Nat) :
    uintValue f o w = (Finset.range w).sum fun i => (f (o + i)).toNat * 256 ^ i := by
  induction w generalizing o with
  | zero => rfl
  | succ w ih =>
    have hshift (i : Nat) : 256 * ((f (o + 1 + i)).toNat * 256 ^ i) = (f (o + (i + 1))).toNat * 256 ^ (i + 1) := by
      rw [show o + 1 + i = o + (i + 1) by omega]
      ring
    rw [uintValue, ih, Finset.sum_range_succ', Finset.mul_sum, Finset.sum_congr rfl fun i _ => hshift i]
    simp [add_comm]

theorem uintValue_pbufByte (s : State) (o w : Nat) : uintValue (pbufByte s) o w = fieldSum s o w :=
  uintValue_eq_sum ..

theorem uintValue_lt (f : Nat → Byte) (o w : Nat) : uintValue f o w < 256 ^ w := by
  induction w generalizing o with
  | zero => exact Nat.one_pos
  | succ w ih =>
    have hbyte := (f o).isLt
    have hrest := ih (o + 1)
    rw [uintValue, pow_succ]
    omega

theorem fieldSum_lt (s : State) (o w : Nat) : fieldSum s o w < 256 ^ w :=
  uintValue_pbufByte s o w ▸ uintValue_lt ..

/-- A field of at most eight bytes fits the 64 bits of `FVAL_HI:FVAL_LO`. -/
theorem decodeUint_toNat (f : Nat → Byte) (o : Nat) {w : Nat} (hw : w ≤ 8) : (decodeUint f o w).toNat = uintValue f o w := by
  have hlt : uintValue f o w < 2 ^ 64 := calc
    uintValue f o w < 256 ^ w := uintValue_lt f o w
    _ ≤ 256 ^ 8 := Nat.pow_le_pow_right (by omega) hw
  rw [decodeUint, BitVec.toNat_ofNat, Nat.mod_eq_of_lt hlt]

/-- The two words of `FVAL_HI:FVAL_LO` put together again. -/
theorem append_halves (v : BitVec 64) : v.extractLsb' 32 32 ++ v.extractLsb' 0 32 = v :=
  (BitVec.extractLsb'_append_extractLsb'_eq_extractLsb' rfl).trans BitVec.extractLsb'_eq_self

theorem append_toNat {m n : Nat} (a : BitVec m) (b : BitVec n) : (a ++ b).toNat = a.toNat * 2 ^ n + b.toNat := by
  rw [BitVec.toNat_append, ← Nat.shiftLeft_add_eq_or_of_lt b.isLt, Nat.shiftLeft_eq]

/-- A pair of words that holds a 32-bit number holds it in the low one. -/
theorem halves_of_append_toNat {hi lo x : Word} (h : (hi ++ lo).toNat = x.toNat) : hi = 0#32 ∧ lo = x := by
  rw [append_toNat] at h
  constructor <;> bv_omega

/-- Four bytes of `PBUF` as a 32-bit number. -/
theorem fieldSum_four (s : State) (o : Nat) :
    fieldSum s o 4 = (pbufByte s (o + 3) ++ pbufByte s (o + 2) ++ pbufByte s (o + 1) ++ pbufByte s o).toNat := by
  simp only [fieldSum, Finset.sum_range_succ, Finset.sum_range_zero, append_toNat]
  ring_nf

/-! ### Strings (R265) -/

theorem trimmedTo_trimmedLength (s : State) (o w : Nat) : trimmedTo s o w (trimmedLength (pbufByte s) o w) := by
  induction w with
  | zero => exact ⟨le_rfl, .inl rfl, fun u hlt hle => absurd hlt (by omega)⟩
  | succ w ih =>
    obtain ⟨hle, hlast, hnull⟩ := ih
    by_cases hb : pbufByte s (o + w) = 0x00#8
    · rw [trimmedLength, if_pos hb]
      refine ⟨by omega, hlast, fun u hlt hu => ?_⟩
      obtain rfl | hu : u = w + 1 ∨ u ≤ w := by omega
      exacts [hb, hnull u hlt hu]
    · rw [trimmedLength, if_neg hb]
      exact ⟨le_rfl, .inr hb, fun u hlt hu => absurd hlt (by omega)⟩

/-! ### The words of a field (R48, R277) -/

theorem fmetaHas_fmetaWord (enc valid : Bool) (o w t : Byte) : fmetaHas (fmetaWord enc valid o w t) enc valid o w t.toNat := by
  unfold fmetaWord
  refine ⟨?enc, ?valid, ?_, ?_, ?_, congrArg BitVec.toNat ?_⟩
  case enc | valid =>
    repeat rw [BitVec.getLsbD_append]
    simp
  all_goals
    ext i hi
    rw [BitVec.getElem_extractLsb']
    repeat rw [BitVec.getLsbD_append]
    grind

section View

variable (s : State) {e : Entry}

theorem viewEntry_uint (henc : e.isString = false) (hw : e.width.toNat ≤ 8) :
    fmetaHas (viewEntry (pbufByte s) true e).fmeta false true e.offset e.width e.width.toNat ∧
      ((viewEntry (pbufByte s) true e).hi ++ (viewEntry (pbufByte s) true e).lo).toNat =
        fieldSum s e.offset.toNat e.width.toNat := by
  simp only [viewEntry, henc, if_true, Bool.false_eq_true, if_false]
  rw [append_halves, decodeUint_toNat _ _ hw, uintValue_pbufByte]
  exact ⟨fmetaHas_fmetaWord .., rfl⟩

theorem viewEntry_string (henc : e.isString = true) :
    (viewEntry (pbufByte s) true e).lo = 0#32 ∧ (viewEntry (pbufByte s) true e).hi = 0#32 ∧
      ∃ t, trimmedTo s e.offset.toNat e.width.toNat t ∧
        fmetaHas (viewEntry (pbufByte s) true e).fmeta true true e.offset e.width t := by
  have htrim := trimmedTo_trimmedLength s e.offset.toNat e.width.toNat
  have hlt : trimmedLength (pbufByte s) e.offset.toNat e.width.toNat < 2 ^ 8 := htrim.1.trans_lt e.width.isLt
  have hmeta := fmetaHas_fmetaWord true true e.offset e.width
    (BitVec.ofNat 8 (trimmedLength (pbufByte s) e.offset.toNat e.width.toNat))
  rw [BitVec.toNat_ofNat, Nat.mod_eq_of_lt hlt] at hmeta
  simp only [viewEntry, henc, if_true, true_and]
  exact ⟨_, htrim, hmeta⟩

end View

/-- With the payload too short no field has a value (R263, R277). -/
theorem viewEntry_short (f : Nat → Byte) (e : Entry) :
    fmetaHas (viewEntry f false e).fmeta e.isString false e.offset e.width 0 ∧
      (viewEntry f false e).lo = 0#32 ∧ (viewEntry f false e).hi = 0#32 :=
  ⟨fmetaHas_fmetaWord .., rfl, rfl⟩

theorem viewField_of_get {table : List Entry} {j : Nat} {e : Entry} (h : table[j]? = some e) (f : Nat → Byte) (plen : Byte) :
    viewField f plen table j = viewEntry f (decodeOk plen table) e := by
  simp [viewField, h]

/-! ### The read ports (R277) -/

theorem dstatWord_fields (plen : Byte) {table : List Entry} (hlen : table.length < 64) :
    (dstatWord plen table).getLsbD 0 = decodeOk plen table ∧
      (dstatWord plen table).extractLsb' 1 4 = (if decodeOk plen table then 0#4 else 5#4) ∧
      (dstatWord plen table).extractLsb' 5 3 = 0#3 ∧
      ((dstatWord plen table).extractLsb' 8 6).toNat = table.length ∧
      (dstatWord plen table).extractLsb' 14 18 = 0#18 := by
  have hcount : (BitVec.ofNat 6 table.length).toNat = table.length := by
    rw [BitVec.toNat_ofNat, Nat.mod_eq_of_lt hlen]
  simp only [dstatWord, outOfRangeCode]
  refine ⟨?ok, ?_, ?_, (congrArg BitVec.toNat ?_).trans hcount, ?_⟩
  case ok =>
    repeat rw [BitVec.getLsbD_append]
    simp
  all_goals
    ext i hi
    rw [BitVec.getElem_extractLsb']
    repeat rw [BitVec.getLsbD_append]
    grind

/-- Settles O28: `DSTAT` field by field, then the selected entry in the three cases of `viewEntry`. -/
theorem decoderReadPorts : Obligations.DecoderReadPorts := by
  intro s
  refine ⟨dstat s, (selectedField s).fmeta, (selectedField s).lo, (selectedField s).hi, rfl, rfl, rfl, rfl, ?_⟩
  intro ok
  have hlen := layout_length_le s.kind
  obtain ⟨hok, hcode, hrsv, hcount, htop⟩ := dstatWord_fields s.plen (table := layout s.kind) (by omega)
  refine ⟨hok, hcode, hrsv, hcount, htop, ?_⟩
  cases hget : (layout s.kind)[s.fsel.toNat]? with
  | none => simp [selectedField, viewField, hget]
  | some e =>
    obtain ⟨-, -, hwidth⟩ := (entryFits_iff ..).mp (entryFits_of_mem_layout _ e (List.mem_of_getElem? hget))
    have hview : selectedField s = viewEntry (pbufByte s) ok e := viewField_of_get hget ..
    simp only [hview]
    refine ⟨fun hok henc => ?uint, fun hok henc => ?string, fun hok => ?short⟩ <;> rw [hok]
    case uint => exact viewEntry_uint s henc (hwidth henc)
    case string => exact viewEntry_string s henc
    case short => exact viewEntry_short ..

/-! ### The generic rows (R264, R265) -/

/-- What a row returns for entry `e` of a table that requires `n` bytes: the words of that entry. -/
theorem fieldResult_of_get {table : List Entry} {j n : Nat} {e : Entry} (hget : table[j]? = some e) (hreq : reqOf table = n)
    (s : State) :
    ∃ v, fieldResult table j s = .field v.fmeta v.lo v.hi ∧ v = viewEntry (pbufByte s) (decide (n ≤ s.plen.toNat)) e :=
  ⟨_, rfl, by rw [viewField_of_get hget, decodeOk, hreq]⟩

/-- An integer entry, in the two cases of the payload's length. -/
theorem fieldResult_uint {table : List Entry} {j n : Nat} {e : Entry} (hget : table[j]? = some e) (hreq : reqOf table = n)
    (henc : e.isString = false) (hwidth : e.width.toNat ≤ 8) (s : State) :
    ∃ m lo hi, fieldResult table j s = .field m lo hi ∧
      (n ≤ s.plen.toNat → fmetaHas m false true e.offset e.width e.width.toNat ∧
        (hi ++ lo).toNat = fieldSum s e.offset.toNat e.width.toNat) ∧
      (s.plen.toNat < n → fmetaHas m false false e.offset e.width 0 ∧ lo = 0#32 ∧ hi = 0#32) := by
  obtain ⟨v, hv, hview⟩ := fieldResult_of_get hget hreq s
  refine ⟨v.fmeta, v.lo, v.hi, hv, fun hlong => ?long, fun hshort => ?short⟩
  case long =>
    rw [decide_eq_true hlong] at hview
    exact hview ▸ viewEntry_uint s henc hwidth
  case short =>
    rw [decide_eq_false (by omega)] at hview
    have hwords := viewEntry_short (pbufByte s) e
    rw [henc] at hwords
    exact hview ▸ hwords

theorem reqOf_oneEntry (o w : Byte) (enc : Bool) : reqOf (oneEntry o w enc) = o.toNat + w.toNat := by
  simp [oneEntry, entryEnd]

/-- Settles O35: the one entry of the row's table is an integer entry, and its bytes spell a number below `256^w`. -/
theorem unsignedIntegerField : Obligations.UnsignedIntegerField := by
  intro o w s hpos hwidth hend
  have hfits : entryFits o w false = true := (entryFits_iff ..).mpr ⟨hpos, hend, fun _ => hwidth⟩
  obtain ⟨m, lo, hi, hresult, hlong, hshort⟩ :=
    fieldResult_uint (table := oneEntry o w false) (j := 0) rfl (reqOf_oneEntry ..) rfl hwidth s
  refine ⟨m, lo, hi, by simp [exec, execFieldUint, hfits, hresult, opReturns], fun h => ?_, hshort⟩
  obtain ⟨hmeta, hsum⟩ := hlong h
  exact ⟨hmeta, hsum, fieldSum_lt ..⟩

/-- Settles O36, by the two cases of the payload's length; in both the value words are 0. -/
theorem stringField : Obligations.StringField := by
  intro o w s hpos hend
  have hfits : entryFits o w true = true := (entryFits_iff ..).mpr ⟨hpos, hend, nofun⟩
  obtain ⟨v, hv, hview⟩ := fieldResult_of_get (table := oneEntry o w true) (j := 0) rfl (reqOf_oneEntry ..) s
  have hexec : exec (.fieldString o w) s = .next { s with opr := .field v.fmeta v.lo v.hi } := by
    simp [exec, execFieldString, hfits, hv, opReturns]
  by_cases hlong : o.toNat + w.toNat ≤ s.plen.toNat
  case pos =>
    rw [decide_eq_true hlong] at hview
    obtain ⟨hlo, hhi, htrimmed⟩ := hview ▸ viewEntry_string s rfl
    exact ⟨v.fmeta, by rw [hexec, hlo, hhi], fun _ => htrimmed, fun hshort => absurd hshort (by omega)⟩
  case neg =>
    rw [decide_eq_false hlong] at hview
    obtain ⟨hmeta, hlo, hhi⟩ := hview ▸ viewEntry_short ..
    exact ⟨v.fmeta, by rw [hexec, hlo, hhi], fun h => absurd h hlong, fun _ => hmeta⟩

/-! ### The rows of the tables (R266 to R270) -/

/-- The rows that name a place of a table, with the kind and the place. -/
inductive LayoutRow : Instr → BitVec 3 → Nat → Prop where
  | baseStatus : LayoutRow .l0BaseStatus 0#3 0
  | powerSource : LayoutRow .l1PowerSource 1#3 0
  | batteryStatus : LayoutRow .l2BatteryStatus 2#3 0
  | state : LayoutRow .l3State 3#3 0
  | presentRate : LayoutRow .l3PresentRate 3#3 1
  | remainingCapacity : LayoutRow .l3RemainingCapacity 3#3 2
  | presentVoltage : LayoutRow .l3PresentVoltage 3#3 3
  | batteryStatic (n : Fin 20) : LayoutRow (.l4BatteryStatic n) 4#3 n

section Rows

variable {i : Instr} {k : BitVec 3} {j : Nat}

/-- A row decodes over its own kind's table (log entry 14). -/
theorem LayoutRow.exec_eq (h : LayoutRow i k j) (s : State) :
    exec i s = .next { s with opr := fieldResult (layout k) j s } := by
  cases h <;> rfl

theorem LayoutRow.lt_length (h : LayoutRow i k j) : j < (layout k).length := by
  cases h with
  | batteryStatic n => exact n.isLt.trans_eq layoutBatteryStatic_length.symm
  | _ => decide

/-- The rows of the dynamic table, each with the offset of its four bytes (R269). -/
theorem layoutRow_dynamic {o : Byte} (h : (i = .l3State ∧ o = 0#8) ∨ (i = .l3PresentRate ∧ o = 4#8) ∨
    (i = .l3RemainingCapacity ∧ o = 8#8) ∨ (i = .l3PresentVoltage ∧ o = 12#8)) :
    ∃ j name, LayoutRow i 3#3 j ∧ (layout 3#3)[j]? = some ⟨name, o, 4#8, false⟩ := by
  obtain ⟨rfl, rfl⟩ | ⟨rfl, rfl⟩ | ⟨rfl, rfl⟩ | ⟨rfl, rfl⟩ := h
  exacts [⟨0, _, .state, rfl⟩, ⟨1, _, .presentRate, rfl⟩, ⟨2, _, .remainingCapacity, rfl⟩, ⟨3, _, .presentVoltage, rfl⟩]

/-- With `KIND` and `FSEL` at a place of a table the read ports show the field at that place. -/
theorem selectedField_at (hj : j < (layout k).length) (s : State) :
    (BitVec.ofNat 5 j).toNat = j ∧
      selectedField { s with kind := k, fsel := BitVec.ofNat 5 j } = viewField (pbufByte s) s.plen (layout k) j := by
  have hsel : (BitVec.ofNat 5 j).toNat = j := by
    rw [BitVec.toNat_ofNat, Nat.mod_eq_of_lt (hj.trans_le (layout_length_le k))]
  exact ⟨hsel, congrArg (viewField (pbufByte s) s.plen (layout k)) hsel⟩

end Rows

/-- Settles O37: each row is an integer entry of its table, and four bytes leave the high word 0. -/
theorem knownTableRows : Obligations.KnownTableRows := by
  refine ⟨rfl, rfl, fun s => ⟨?base, fun i o hi => ?dynamic⟩⟩
  case base =>
    obtain ⟨m, lo, hi, hresult, hlong, hshort⟩ :=
      fieldResult_uint (table := layout 0#3) (j := 0) (n := 1) rfl rfl rfl (by decide) s
    refine ⟨m, lo, hi, by rw [LayoutRow.baseStatus.exec_eq, hresult], fun h => ?_, hshort⟩
    obtain ⟨hmeta, hsum⟩ := hlong h
    exact ⟨hmeta, hsum.trans (by simp [fieldSum])⟩
  case dynamic =>
    obtain ⟨j, name, hrow, hget⟩ := layoutRow_dynamic hi
    obtain ⟨m, lo, hi, hresult, hlong, hshort⟩ := fieldResult_uint (n := 16) hget rfl rfl (show (4#8 : Byte).toNat ≤ 8 by decide) s
    refine ⟨m, lo, hi, by rw [hrow.exec_eq, hresult], fun h => ?_, hshort⟩
    obtain ⟨hmeta, hsum⟩ := hlong h
    exact ⟨hmeta, halves_of_append_toNat (hsum.trans (fieldSum_four ..))⟩

/-- Of the twenty static-info entries at least three are strings and at least three are not (R270, log entry 27). -/
theorem staticIsString_countP (choice : Nat → Bool) :
    3 ≤ (List.range 20).countP (staticIsString choice) ∧ (List.range 20).countP (staticIsString choice) ≤ 17 := by
  simp only [staticIsString]
  split
  · assumption
  · decide

theorem layoutBatteryStatic_countP :
    3 ≤ layoutBatteryStatic.countP (fun e => e.isString) ∧ 3 ≤ layoutBatteryStatic.countP (fun e => !e.isString) := by
  have hstrings : layoutBatteryStatic.countP (fun e => e.isString) =
      (List.range 20).countP (staticIsString (Config.openIsString 4#3)) := List.countP_map ..
  have hsplit := List.length_eq_countP_add_countP (l := layoutBatteryStatic) (fun e => e.isString)
  obtain ⟨hlow, hhigh⟩ := staticIsString_countP (Config.openIsString 4#3)
  simp only [layoutBatteryStatic_length, Bool.not_eq_true, Bool.decide_eq_false] at hsplit
  omega

/-- Settles O38: a row and the read ports show the same place of the same table. -/
theorem layoutRowsAgreeWithReadPorts : Obligations.LayoutRowsAgreeWithReadPorts := by
  refine ⟨⟨rfl, rfl, rfl, rfl, layoutBatteryStatic_length, rfl, rfl, rfl, layoutBatteryStatic_countP⟩, fun i k j s h => ?_⟩
  have hrow : LayoutRow i k j := by
    obtain ⟨rfl, rfl, rfl⟩ | ⟨rfl, rfl, rfl⟩ | ⟨rfl, rfl, rfl⟩ | ⟨rfl, rfl, rfl⟩ | ⟨rfl, rfl, rfl⟩ | ⟨rfl, rfl, rfl⟩ |
      ⟨rfl, rfl, rfl⟩ | ⟨n, rfl, rfl, rfl⟩ := h
    exacts [.baseStatus, .powerSource, .batteryStatus, .state, .presentRate, .remainingCapacity, .presentVoltage,
      .batteryStatic n]
  obtain ⟨hsel, hview⟩ := selectedField_at hrow.lt_length s
  refine ⟨_, _, _, hrow.exec_eq s, by simp [hrow.lt_length], ?_⟩
  simp only [exec, execRdFmeta, execRdFvalLo, execRdFvalHi, hview]
  exact ⟨hsel, rfl, rfl, rfl⟩

end Sys2Proof.Machine
end

section
/-! The battery summary (R273 to R275): the remaining percentage and the label of the state code. -/

namespace Sys2Proof.Machine

/-- The percentage fits the 39 bits that it is computed on (R273). -/
theorem pct_toNat (rem full : Word) :
    (pct rem full).toNat = if full = 0#32 then 0 else rem.toNat * 100 / full.toNat := by
  have hlt : rem.toNat * 100 / full.toNat < 2 ^ 39 := by
    have hrem := rem.isLt
    have hdiv := Nat.div_le_self (rem.toNat * 100) full.toNat
    omega
  unfold pct
  split
  · rfl
  · rw [BitVec.toNat_ofNat, Nat.mod_eq_of_lt hlt]

theorem sumPctWords_toNat (s : State) :
    (sumPctHiWord s).toNat * 2 ^ 32 + (sumPctLoWord s).toNat = (sumPct s).toNat ∧ (sumPctHiWord s).toNat < 2 ^ 7 := by
  have hlt := (sumPct s).isLt
  simp only [sumPctHiWord, sumPctLoWord, BitVec.truncate_eq_setWidth, BitVec.toNat_setWidth, BitVec.extractLsb'_toNat,
    Nat.shiftRight_eq_div_pow]
  omega

/-- Settles O29, by the value of the percentage and its two words. -/
theorem remainingPercentage : Obligations.RemainingPercentage := fun s =>
  ⟨sumPct s, sumPctLoWord s, sumPctHiWord s, rfl, rfl, rfl, pct_toNat .., sumPctWords_toNat s⟩

theorem isKnownState_iff (v : Word) : isKnownState v = true ↔ v.toNat ∈ [0, 1, 2, 4, 5, 6] := by
  simp [isKnownState, ← BitVec.toNat_inj]

/-- A labelled code's word holds the code's low three bits and is 0 above them (R274). -/
theorem labelWord_known {v : Word} (h : isKnownState v = true) :
    (labelWord v).extractLsb' 0 3 = v.extractLsb' 0 3 ∧ (labelWord v).getLsbD 8 = false ∧
      ∀ k n, 3 ≤ k → (labelWord v).extractLsb' k n = 0#n := by
  have hword : labelWord v = 0#29 ++ v.extractLsb' 0 3 := if_pos h
  rw [hword]
  refine ⟨?_, ?flag, fun k n hk => ?_⟩
  case flag =>
    rw [BitVec.getLsbD_append]
    simp
  all_goals
    ext i hi
    rw [BitVec.getElem_extractLsb', BitVec.getLsbD_append]
    grind

/-- Settles O30: the labelled codes have a word of their low three bits alone, the others the unknown word. -/
theorem summaryLabel : Obligations.SummaryLabel := by
  intro s
  refine ⟨labelWord s.sumState, rfl, ?_⟩
  rw [← isKnownState_iff]
  cases hknown : isKnownState s.sumState with
  | true =>
    obtain ⟨hlow, hflag, hzero⟩ := labelWord_known hknown
    exact ⟨fun _ => ⟨hlow, hflag, hzero 12 4 (by omega)⟩, fun h => absurd rfl h, hzero 3 5 (by omega), hzero 9 3 (by omega),
      hzero 16 16 (by omega)⟩
  | false =>
    rw [labelWord_unknown hknown]
    exact ⟨nofun, fun _ => by decide, by decide⟩

end Sys2Proof.Machine
end

section
/-! The host's commands, the CRC port and the reads of stored registers (R290 to R296, R301): each `CTRL` row is its commands run
one after another, `HCRC` folds the bytes written to it, and a read returns the register's word. -/

namespace Sys2Proof.Machine

/-! ### The rows of a single command (R292 to R294) -/

theorem exec_start_alone (rsv : BitVec 29) (s : State) : exec (.start false false rsv) s = .next (commandStart s) := rfl

theorem exec_clr_alone (rsv : BitVec 29) (s : State) : exec (.clr false rsv) s = .next (commandClr s) := rfl

theorem exec_hcrcInit (rsv : BitVec 29) (s : State) : exec (.hcrcInit rsv) s = .next (commandHcrcInit s) := rfl

theorem exec_hcrcDin (v : Word) (s : State) :
    exec (.hcrcDin v) s = .next { s with hcrc := crcUpdate s.hcrc (byteOf v) } := rfl

/-- Settles O22: the row of `START` alone is the command. -/
theorem startBeginsAnExchange : Obligations.StartBeginsAnExchange := exec_start_alone

/-- `CLR` with the terminal states by name (R293). -/
theorem commandClr_eq (s : State) :
    commandClr s =
      if s.st = .done ∨ s.st = .aborted ∨ s.st = .faulted then
        { s with st := .idle, retried := false, needsRetry := false, rxOvr := false, err := none }
      else if s.st = .idle then { s with rxOvr := false }
      else s := by
  simp only [commandClr, St.terminal_iff]

/-- Settles O23: the row of `CLR` alone is the command. -/
theorem clrLeavesATerminalState : Obligations.ClrLeavesATerminalState := fun rsv s =>
  (exec_clr_alone rsv s).trans (congrArg Host.Outcome.next (commandClr_eq s))

/-! ### Several command bits in one write (R301) -/

/-- A row that stands in a sequence under a condition runs its command under that condition. -/
theorem execAll_ite_append {i : Instr} {f : State → State} (hf : ∀ s, exec i s = .next (f s)) (b : Bool) (rest : List Instr)
    (s : State) : execAll ((if b then [i] else []) ++ rest) s = execAll rest (commandIf b f s) := by
  cases b with
  | true => exact execAll_cons rest (hf s)
  | false => rfl

theorem execAll_singleton {i : Instr} {s t : State} (h : exec i s = .next t) : execAll [i] s = .next t := execAll_cons [] h

theorem commandStart_of_idle {s : State} (h : s.st = .idle) :
    commandStart s =
      { s with st := .drainPre, bc := 0#9, tl := 0#9, retry := false, retried := false, needsRetry := false, err := none } :=
  if_pos h

/-- `CLR` and then `START` begin an exchange from every state that is not busy. -/
theorem commandStart_commandClr (s : State) :
    commandStart (commandClr s) =
      if s.st.busy then s
      else { s with st := .drainPre, bc := 0#9, tl := 0#9, retry := false, retried := false, needsRetry := false,
                    err := none, rxOvr := false } := by
  cases hb : s.st.busy with
  | true => rw [commandClr_of_busy hb, commandStart_of_busy hb, if_pos rfl]
  | false =>
    obtain ⟨-, e⟩ | ⟨hidle, e⟩ | ⟨hbusy, -⟩ := commandClr_cases s
    · rw [e]
      exact commandStart_of_idle rfl
    · rw [e]
      exact commandStart_of_idle (s := { s with rxOvr := false }) hidle
    · simp [hb] at hbusy

/-- Settles O24: each bit of the write is one row of the sequence, present exactly where the bit is set. -/
theorem commandBitsTakeEffectInOrder : Obligations.CommandBitsTakeEffectInOrder := by
  refine ⟨fun clr init rsv s => ?start, fun init rsv s => ?clr, fun rsv s => ?clrStart⟩
  case start =>
    rw [List.append_assoc, execAll_ite_append (exec_clr_alone rsv), execAll_ite_append (exec_hcrcInit rsv),
      execAll_singleton (exec_start_alone rsv _)]
    rfl
  case clr =>
    rw [List.singleton_append, execAll_cons _ (exec_clr_alone rsv s), ← List.append_nil (if init then _ else _),
      execAll_ite_append (exec_hcrcInit rsv)]
    rfl
  case clrStart => exact congrArg Host.Outcome.next (commandStart_commandClr s)

/-! ### The CRC port (R294, R295) -/

/-- Writes to `HCRC_DIN` fold the bytes into `HCRC`, from whatever it holds. -/
theorem execAll_map_hcrcDin (vs : List Word) (s : State) :
    execAll (vs.map .hcrcDin) s = .next { s with hcrc := (vs.map byteOf).foldl crcUpdate s.hcrc } := by
  induction vs generalizing s with
  | nil => rfl
  | cons v vs ih => rw [List.map_cons, execAll_cons _ (exec_hcrcDin v s), ih, List.map_cons, List.foldl_cons]

/-- Settles O8: `HCRC_INIT` leaves the initial value of `crc16`, and the writes are its fold. -/
theorem hostCrcPortComputesCrc16 : Obligations.HostCrcPortComputesCrc16 := by
  refine ⟨exec_hcrcInit, exec_hcrcDin, fun rsv vs s => ?_⟩
  rw [execAll_cons _ (exec_hcrcInit rsv s), execAll_map_hcrcDin]
  rfl

/-! ### The words of the stored registers (R43, R46) -/

theorem cfgWord_fields (s : State) :
    (cfgWord s).getLsbD 0 = s.cfg.ie ∧ (cfgWord s).getLsbD 1 = s.cfg.tmoEn ∧ (cfgWord s).extractLsb' 2 30 = 0#30 := by
  unfold cfgWord
  refine ⟨?_, ?_, ?reserved⟩
  case reserved =>
    ext i hi
    rw [BitVec.getElem_extractLsb']
    repeat rw [BitVec.getLsbD_append]
    grind
  all_goals
    repeat rw [BitVec.getLsbD_append]
    simp

theorem descWord_fields (s : State) :
    (descWord s).extractLsb' 0 8 = s.desc.tc ∧ (descWord s).extractLsb' 8 8 = s.desc.iid ∧
      (descWord s).extractLsb' 16 8 = s.desc.cid ∧ (descWord s).extractLsb' 24 8 = 0#8 := by
  unfold descWord
  refine ⟨?_, ?_, ?_, ?_⟩ <;> ext i hi <;> rw [BitVec.getElem_extractLsb'] <;> repeat rw [BitVec.getLsbD_append]
  all_goals grind

/-- Settles O25: each read returns its register's word; those of `CFG` and `DESC` are read off field by field. -/
theorem storedRegisterReads : Obligations.StoredRegisterReads := fun s =>
  ⟨rfl, ⟨cfgWord s, rfl, cfgWord_fields s⟩, rfl, rfl, ⟨descWord s, rfl, descWord_fields s⟩, rfl, rfl, rfl, rfl, rfl, rfl, rfl,
    rfl, rfl, fun _ => rfl⟩

end Sys2Proof.Machine
end

section
/-! Fault entry and abort entry (R324, R325) as rows of their own: each is its entry operation, in whatever state it runs. -/

namespace Sys2Proof.Machine

theorem exec_raiseFault (k : FatalKind) (s : State) : exec (.raiseFault k) s = .next (raiseFault k s) := rfl

theorem exec_abort (s : State) : exec .abort s = .next (abortEntry s) := rfl

/-- Settles O49: the entry operations write `ERR` and `ST` alone; fault entry takes the stage from the state it leaves
(`raiseFault_of_st`), abort entry always names stage 3, `AWAIT_ACK`. -/
theorem exceptionEntry : Obligations.ExceptionEntry := by
  refine ⟨fun k s => ?faultEntry, fun s => ?abortEntry⟩
  case faultEntry => exact (exec_raiseFault k s).trans (congrArg Host.Outcome.next (raiseFault_of_st k rfl))
  case abortEntry => exact exec_abort s

end Sys2Proof.Machine
end
